-- ==== Sys2Proof/Word.lean ====
section
/-! DEFINITION. The plain word types: a byte and a line of text. Every other quantity of the spec is a
number with a stated range (00, Quantities), held as a natural number or an integer. -/

namespace Sys2Proof

/-- Eight bits: a byte of the configuration image (R181) or a character of the service UART (R170). -/
abbrev Byte := BitVec 8

/-- One line of service text, without the carriage return and line feed that end it (R182). -/
abbrev Text := List Char

end Sys2Proof
end

