-- ==== Sys2Proof/Syntax.lean ====
section
/-! DEFINITION. The commands of the block: one constructor for each row of spec/opcode_table.json, with
the operands the environment brings. The table gives no operands, so they are this model's (log 3, 6, 10, 11, 16,
19). An operand of an upset, of an order within an instant, or of how far a load or a reply came has a
default: no upset, the warn test first, the first byte, nothing sent. -/

namespace Sys2Proof

/-- The survey kinds (R134); their field values are 0 to 3 in this order (R180). -/
inductive SurveyKind where
  | none
  | interrupt
  | depolarize
  | freeze
  deriving DecidableEq, Repr

/-- What the environment brings to a CYCLE_END: the table slots whose stored entries an upset has struck,
by the read that finds them (R70, log 6), those at the end of the cycle and the search lane's at the start
of the next; and whether the warn test comes after a boundary of the same instant (R161, log 36). -/
structure CycleInputs where
  ended : List Nat := []
  started : List Nat := []
  warnLast : Bool := false
  deriving DecidableEq, Repr

/-- The table slots whose stored entries an upset has struck, by the read of FRAME_BOUNDARY that may find
them (R70, R71, log 6): the table's work, regulation's apply stage, the survey coordinator,
regulation's plan stage, and the search lane's read at the start of the cycle that begins there. -/
structure BoundaryUpsets where
  work : List Nat := []
  apply : List Nat := []
  survey : List Nat := []
  plan : List Nat := []
  started : List Nat := []
  deriving DecidableEq, Repr

/-- The commands. Each is one step of the device, whole and indivisible (95). -/
inductive Instr where
  /-- FULL_RESET (R169): power-on, RESET low, or the supply below 6.5 V; and how many characters of a
  reply in progress were sent whole by then (R182). -/
  | fullReset (sent : Nat := 0)
  /-- RESET_END (R169): the supply is at or above 6.5 V and RESET is high. -/
  | resetEnd
  /-- CONFIG_LOAD_START (R154): the settling wait is over and the read begins. -/
  | configLoadStart
  /-- CONFIG_LOAD_END (R155): the bytes read, and the timer units of the millisecond in progress
  that have passed at the event. -/
  | configLoadEnd (image : List Byte) (unit : Nat)
  /-- LOAD_NACK (R156): which of the three address bytes, 1 to 3, the memory left unacknowledged. -/
  | loadNack (byte : Nat := 1)
  /-- LOAD_BUS_CONFLICT (R156): how many actions of the transfer were whole before it. -/
  | loadBusConflict (sent : Nat := 0)
  /-- LOAD_TIMEOUT (R156): how many actions of the transfer were whole by then. -/
  | loadTimeout (sent : Nat := 0)
  /-- SAMPLE (R19): the averages of one local millisecond of P, I, V and S, before saturation, in
  0.1 mV, mA, 0.1 V and 0.01 V. -/
  | sample (potential current voltage supply : Int)
  /-- KEYING_SPAN_END (R23): the end of ms 959. -/
  | keyingSpanEnd
  /-- OFF_WINDOW_DECISION (R5): ms 970. -/
  | offWindowDecision
  /-- OFF_WINDOW_END (R6): the end of ms 970 + W - 1. -/
  | offWindowEnd
  /-- CYCLE_END (R1), with the storage upsets its reads find and the place of its warn test. -/
  | cycleEnd (inputs : CycleInputs := {})
  /-- FRAME_BOUNDARY (R60): the boundary at the cycle end just taken, with the storage upsets
  its reads find. -/
  | frameBoundary (upsets : BoundaryUpsets := {})
  /-- DWELL_END (R51): the dwell end at the cycle end just taken. -/
  | dwellEnd
  /-- MAINS_CHANGE (R162): the new level, and the timer units of the millisecond in progress that
  have passed at the event. -/
  | mainsChange (present : Bool) (unit : Nat)
  /-- BROWNOUT_ENTRY (R164). -/
  | brownoutEntry
  /-- BROWNOUT_EXIT (R165). -/
  | brownoutExit
  /-- CHARACTER_RECEIVED (R170, R171): the eight data bits, and the stop bit as read. -/
  | characterReceived (byte : Byte) (stop : Bool)
  /-- STATUS (R175): its command event. -/
  | status
  /-- TABLE (R176): its command event. -/
  | table
  /-- TABLE_LINE_READ (R176): the read before the next line of a TABLE reply, with the slots an
  upset has struck since the last read. -/
  | tableLineRead (upset : List Nat := [])
  /-- CAPT n (R177): its command event. -/
  | capt (n : Nat)
  /-- HOLD (R174): its command event. -/
  | hold
  /-- FREE (R174): its command event. -/
  | free
  /-- SURVEY kind count (R174): its command event. -/
  | survey (kind : SurveyKind) (count : Nat)
  /-- CLEAR (R168): its command event. -/
  | clear
  /-- RESTART (R178): its command event. -/
  | restart
  /-- REPLY_END (R172): the stop bit of the reply's last character has been sent. -/
  | replyEnd
  /-- DEVICE_RESTART (R178): the restart handed to the supervisor. -/
  | deviceRestart
  deriving DecidableEq, Repr

end Sys2Proof
end

