-- ==== Sys2Proof/Config.lean ====
section
/-! DEFINITION. The free choices: what the spec leaves open and no statement may rest on. Each is a
constant without a body, applied to the model's own counter `State.freeCount`. -/

namespace Sys2Proof.Config

/-- Whether, at one cycle end, an entry that fails its parity check is removed before the weighted
error is formed. R44 and R75 state both outcomes and leave the order open (log 7). -/
opaque removalBeforeWeighing : Nat → Bool

/-- Whether, at one cycle end, a lock loss changes the condition before the realignment decision of
R86 reads it. The rules leave the order open (log 8). -/
opaque lockLossBeforeRealignment : Nat → Bool

end Sys2Proof.Config
end

