-- ==== Sys2Proof/Machine/State.lean ====
section
/-! DEFINITION. The state of the device: every piece of state the spec gives its eleven blocks, as plain
data, and the values after a full reset. INVENTORY.md lists each field with its rule. -/

namespace Sys2Proof.Machine

/-- The block never stops: the spec gives every event an effect (its condition FAULT, R166, is an
ordinary state). No meaning raises a fault. -/
inductive Fault where
  deriving DecidableEq, Repr

/-- Why a command has no meaning. -/
inductive Refusal where
  /-- Raised by `exec` alone, for a row not modelled yet. Safe: the model stops where the device goes on. -/
  | notModelled (mnemonic : String)
  deriving DecidableEq, Repr

/-! ### Names -/

/-- The station's condition (R151). -/
inductive Condition where
  | starting | acquiring | regulating | holding | survey | dark | brownout | fault
  deriving DecidableEq, Repr

/-- The fault cause (R151, R166). -/
inductive FaultCause where
  | config | reversed
  deriving DecidableEq, Repr

/-- A pending hold request (R160). -/
inductive HoldRequest where
  | hold | free
  deriving DecidableEq, Repr

/-- The lock state (R74). -/
inductive LockState where
  | unlocked | locked | solitary
  deriving DecidableEq, Repr

/-- The state of a table entry (R55). -/
inductive EntryState where
  | candidate | tracked | parked
  deriving DecidableEq, Repr

/-- The phase of a survey (R134); `over` is the spec's NONE, not started or over. -/
inductive SurveyPhase where
  | over | pending | running
  deriving DecidableEq, Repr

/-- The chip order (R9). -/
inductive ChipOrder where
  | sequential | scrambled
  deriving DecidableEq, Repr

/-- The OFF window of the cycle in progress (R5, R6). -/
inductive WindowState where
  | undecided | absent | opened | full | cutShort
  deriving DecidableEq, Repr

/-- The configuration load (R154 to R156). -/
inductive LoadStage where
  | idle | waiting | reading | ended
  deriving DecidableEq, Repr

/-- The I2C lines as the device leaves them (R154, R156): released without a stop condition, in
transfer, or closed by a stop condition. -/
inductive I2cLines where
  | released | transfer | stopped
  deriving DecidableEq, Repr

/-- What the device does on the I2C line in a transfer (R154): the conditions it sends, an address byte
with its direction, the byte address, and the data byte of an index with the device's acknowledge. -/
inductive BusAction where
  | start
  | repeatedStart
  | address (device : Nat) (read : Bool)
  | byteAddress (n : Nat)
  | data (index : Nat) (acknowledged : Bool)
  | stop
  deriving DecidableEq, Repr

/-- The transmit line (R170): high, as when idle, or carrying the characters of a reply, its lines read so
far each with its ending (R172, R182). -/
inductive TxLine where
  | high
  | sending (text : Text)
  deriving DecidableEq, Repr

/-- The condition field of a corridor frame (R94, R104). -/
inductive FrameCondition where
  | acquiring | regulating | holding | survey
  deriving DecidableEq, Repr

/-! ### Configuration -/

/-- The configuration in the device's working units (R179, R181): potentials in 0.1 mV, currents in
10 mA, W and D in ms, V_max in 0.1 V, VWARN in 0.01 V. -/
structure Settings where
  ownCode : Nat
  target : Int
  floor : Int
  iMax : Int
  iMin : Int
  iStart : Int
  vMax : Nat
  stepLimit : Int
  gain : Int
  deadBand : Int
  spacing : Nat
  settle : Nat
  depth : Nat
  windowLength : Nat
  sampleDelay : Nat
  strayLimit : Int
  order : ChipOrder
  gDetect : Nat
  refresh : Nat
  warnLevel : Nat
  deriving DecidableEq, Repr

/-! ### Cycle timer, keying generator and output drive -/

/-- The cycle timer (R1 to R6). -/
structure Timer where
  phase : Nat
  length : Nat
  position : Nat
  window : WindowState
  deriving DecidableEq, Repr

/-- The keying generator and the output drive (R10 to R18). `segments` are the demand values of the
millisecond in progress with the timer units each has lasted (R15). -/
structure Keying where
  dataBit : Bool
  keyed : Bool
  demandSum : Int
  demandMs : Nat
  segments : List (Int × Nat)
  meanDemand : Option Int
  badCount : Nat
  goodCount : Nat
  stage : Bool
  voltageLimit : Bool
  deriving DecidableEq, Repr

/-! ### Measurement front end -/

/-- An instant-off sample that was taken, with the condition at the end of its interval (R24). -/
structure InstantOff where
  value : Int
  tag : Condition
  deriving DecidableEq, Repr

/-- The measurement front end (R19 to R33). -/
structure FrontEnd where
  unbroken : Bool
  whole : Bool
  chipSamples : List Int
  early : List Int
  prompt : List Int
  late : List Int
  overrange : Bool
  currentSum : Nat
  voltageSum : Nat
  onPotential : Option Int
  meanCurrent : Option Nat
  meanVoltage : Option Nat
  offSum : Int
  offCount : Nat
  instantOff : Option InstantOff
  supplySum : Nat
  supplyCount : Nat
  lastMeanS : Option Nat
  deriving DecidableEq, Repr

/-! ### Correlator -/

/-- The correlator (R34). `lanes` holds, for lanes 1 to 4 in order, the code the lane has integrated
since the start of the cycle in progress; `startCodes` the table's codes at that start (R52). -/
structure Correlator where
  selfSum : Int
  selfCount : Nat
  gSelf : Nat
  gSelfValid : Bool
  reversed : Nat
  xpSelf : Option Int
  residual : Option Bool
  darkSeen : Bool
  lanes : List (Option Nat)
  dwellCode : Nat
  dwellSum : Nat
  dwellCount : Nat
  waiting : Bool
  startCodes : List Nat
  deriving DecidableEq, Repr

/-! ### Neighbour table and frame unit -/

/-- A frame record: the last accepted frame of an entry (R104). -/
structure FrameRecord where
  condition : FrameCondition
  step : Int
  generation : Nat
  kind : SurveyKind
  phase : SurveyPhase
  count : Nat
  limit : Bool
  health : Bool
  age : Nat
  deriving DecidableEq, Repr

/-- A pending offset with the cycle count at which it was seen (R84). -/
structure PendingOffset where
  offset : Nat
  count : Nat
  deriving DecidableEq, Repr

/-- An entry of the neighbour table (R55). A history place is `none` when erased. The parity is held
as whether the stored check value agrees with the fields (log 6). -/
structure Entry where
  code : Nat
  state : EntryState
  lane : Option Nat
  g : Nat
  gValid : Bool
  frameSum : Nat
  frameCount : Nat
  age : Nat
  low : Nat
  history : List (Option Bool)
  offset : Option PendingOffset
  discarded : Nat
  record : Option FrameRecord
  parityGood : Bool
  deriving DecidableEq, Repr

/-- The neighbour table: eight slots and the table-error count (R56, R71). -/
structure Table where
  slots : List (Option Entry)
  errors : Nat
  deriving DecidableEq, Repr

/-- The frame unit's own state (R92); `watches` are those of lanes 1 to 4 in order. -/
structure FrameUnit where
  ownFrame : Option (List Bool)
  cycleCount : Nat
  watches : List (Option Nat)
  deriving DecidableEq, Repr

/-! ### Phase agreement, regulation, survey coordinator and capture store -/

/-- Phase agreement (R74). -/
structure Agreement where
  lock : LockState
  acquisition : Nat
  loss : Nat
  relock : Nat
  deriving DecidableEq, Repr

/-- The regulation engine (R110). Currents are in 10 mA units. -/
structure Regulation where
  setCurrent : Option Int
  staged : Int
  resume : Option Int
  settle : Bool
  beganRegulating : Bool
  spacing : Option Nat
  sampleSum : Int
  sampleCount : Nat
  frameMean : Option Int
  floor : Bool
  ilimit : Bool
  vlimit : Bool
  noself : Bool
  noMeasure : Nat
  deriving DecidableEq, Repr

/-- The survey record and the pending origination (R134). -/
structure Survey where
  valid : Bool
  generation : Nat
  kind : SurveyKind
  phase : SurveyPhase
  count : Nat
  origination : Option (SurveyKind × Nat)
  deriving DecidableEq, Repr

/-- A capture record (R147). -/
structure CaptureRecord where
  sequence : Nat
  generation : Nat
  position : Nat
  instantOff : Option Int
  onPotential : Int
  meanCurrent : Nat
  disturbed : Bool
  overrange : Bool
  deriving DecidableEq, Repr

/-- The capture store, oldest record first (R147). -/
structure CaptureStore where
  records : List CaptureRecord
  nextSequence : Nat
  drops : Nat
  deriving DecidableEq, Repr

/-! ### Supervisor and service line -/

/-- The alarm latches (R151, R167). -/
structure Alarms where
  floor : Bool
  ilimit : Bool
  vlimit : Bool
  noself : Bool
  stage : Bool
  supply : Bool
  table : Bool
  capdrop : Bool
  deriving DecidableEq, Repr

/-- The supervisor (R151). -/
structure Supervisor where
  condition : Condition
  faultCause : Option FaultCause
  working : Bool
  hold : Bool
  pendingHold : Option HoldRequest
  mains : Bool
  warn : Bool
  brownout : Bool
  lowRun : Nat
  highRun : Nat
  solitary : Nat
  lastAligned : List Nat
  surveyRunning : Bool
  alarms : Alarms
  deriving DecidableEq, Repr

/-- Where a TABLE reply stands: the next slot to read and the entry lines sent (R176). -/
structure TableCursor where
  slot : Nat
  sent : Nat
  deriving DecidableEq, Repr

/-- The reply in progress: the lines written so far, and the cursor while a TABLE reply has lines
still to be read (R170, R172, R176). -/
structure Reply where
  lines : List Text
  cursor : Option TableCursor
  deriving DecidableEq, Repr

/-- The service line (R170). -/
structure Service where
  buffer : List Byte
  overlong : Bool
  badCharacter : Bool
  reply : Option Reply
  pendingRestart : Bool
  deriving DecidableEq, Repr

/-! ### Pins and the cycle end just taken -/

/-- The output pins: the demand in mA, the three logic outputs and the transmit line (00, Ways into the
device; 11, Pins). -/
structure Pins where
  demand : Int
  offmark : Bool
  alm : Bool
  flt : Bool
  txd : TxLine
  deriving DecidableEq, Repr

/-- Whether a boundary is an ordinary or a forced one (R3). -/
inductive BoundaryKind where
  | ordinary | forced
  deriving DecidableEq, Repr

/-- The cycle end just taken, held while no time has passed since it (log 4): the three facts the
timer presents (R1), with `boundary` present until the boundary is taken; whether a dwell end is
still to be taken (R51) and the offer it brought to a boundary (R60); the codes of the entries whose
frames, and whose aligned frames, were accepted at it (R105, R106); the mean S handed over at it,
until a supply test takes it (R164, R165), and the same where the warn test with it is still to come
(R161, R163, log 36); and the codes in the table at the start of the ended cycle (R52). -/
structure CycleEdge where
  ended : Nat
  boundary : Option BoundaryKind
  started : Nat
  dwellDue : Bool
  offer : Option (Nat × Nat)
  accepted : List Nat
  aligned : List Nat
  meanS : Option Nat
  warnDue : Option Nat
  endedCodes : List Nat
  deriving DecidableEq, Repr

/-! ### The whole state -/

/-- The state of the device, and the queue of the commands that wait, front first. `bus` is what the
device did on the I2C line in the load since the last reset, known once its transfer has ended
(R154, R156, log 19). `wire` is what the transmit line carried of the last reply that ended or was cut off
by a reset (R172, R182, log 17). -/
structure State where
  held : Bool
  load : LoadStage
  lines : I2cLines
  bus : List BusAction
  wire : Text
  config : Option Settings
  timer : Timer
  keying : Keying
  front : FrontEnd
  correlator : Correlator
  table : Table
  frames : FrameUnit
  agreement : Agreement
  regulation : Regulation
  survey : Survey
  capture : CaptureStore
  supervisor : Supervisor
  service : Service
  pins : Pins
  edge : Option CycleEdge
  freeCount : Nat
  pending : List Instr
  deriving DecidableEq, Repr

/-- No alarm latched (R151). -/
def Alarms.none : Alarms :=
  { floor := false, ilimit := false, vlimit := false, noself := false,
    stage := false, supply := false, table := false, capdrop := false }

/-- The machine in full reset at power-on: every field at the value its chapter gives (R18, R33, R54,
R73, R91, R109, R110, R134, R147, R151, R170), the reset still holding the device (log 1), MAINS
present and `dwellCode` 0 (log 1, log 25). -/
def State.reset : State where
  held := true
  load := .idle
  lines := .released
  bus := []
  wire := []
  config := none
  timer := { phase := 0, length := 25600, position := 0, window := .undecided }
  keying :=
    { dataBit := false, keyed := false, demandSum := 0, demandMs := 0, segments := [],
      meanDemand := none, badCount := 0, goodCount := 0, stage := false, voltageLimit := false }
  front :=
    { unbroken := false, whole := false, chipSamples := [], early := [], prompt := [], late := [],
      overrange := false, currentSum := 0, voltageSum := 0, onPotential := none,
      meanCurrent := none, meanVoltage := none, offSum := 0, offCount := 0, instantOff := none,
      supplySum := 0, supplyCount := 0, lastMeanS := none }
  correlator :=
    { selfSum := 0, selfCount := 0, gSelf := 0, gSelfValid := false, reversed := 0,
      xpSelf := none, residual := none, darkSeen := false, lanes := [none, none, none, none],
      dwellCode := 0, dwellSum := 0, dwellCount := 0, waiting := false, startCodes := [] }
  table := { slots := [none, none, none, none, none, none, none, none], errors := 0 }
  frames := { ownFrame := none, cycleCount := 0, watches := [none, none, none, none] }
  agreement := { lock := .unlocked, acquisition := 0, loss := 0, relock := 0 }
  regulation :=
    { setCurrent := none, staged := 0, resume := none, settle := false, beganRegulating := false,
      spacing := none, sampleSum := 0, sampleCount := 0, frameMean := none, floor := false,
      ilimit := false, vlimit := false, noself := false, noMeasure := 0 }
  survey :=
    { valid := false, generation := 0, kind := .none, phase := .over, count := 0,
      origination := none }
  capture := { records := [], nextSequence := 0, drops := 0 }
  supervisor :=
    { condition := .starting, faultCause := none, working := false, hold := false,
      pendingHold := none, mains := true, warn := false, brownout := false, lowRun := 0,
      highRun := 0, solitary := 0, lastAligned := [], surveyRunning := false,
      alarms := Alarms.none }
  service :=
    { buffer := [], overlong := false, badCharacter := false, reply := none,
      pendingRestart := false }
  pins := { demand := 0, offmark := false, alm := false, flt := false, txd := .high }
  edge := none
  freeCount := 0
  pending := []

end Sys2Proof.Machine
end

