-- ==== Sys2Proof/Machine/Signals.lean ====
section
/-! DEFINITION. Rounding and saturation (00, Conventions), the parity codes and chip orders (R8, R9), and
the sums and figures a lane forms from chip values (R36 to R42, R46). -/

namespace Sys2Proof.Machine

/-! ### Rounding and saturation -/

/-- `a / b` rounded to nearest with ties away from zero (00, Rounding). -/
def roundDiv (a : Int) (b : Nat) : Int :=
  a.sign * (((2 * a.natAbs + b) / (2 * b) : Nat) : Int)

/-- The mean of a list of values, rounded as `roundDiv` rounds. -/
def roundMean (xs : List Int) : Int :=
  roundDiv xs.sum xs.length

/-- The nearest end of the range for a value beyond it (00, Saturation). -/
def clampInt (lo hi x : Int) : Int :=
  max lo (min hi x)

/-- A counter that stays at its greatest value when incremented there (00, Saturation). -/
def countUp (limit n : Nat) : Nat :=
  min limit (n + 1)

/-! ### Codes and chip orders -/

/-- Whether the number of one bits among the six lowest of `x` is odd. -/
def oddOnes (x : Nat) : Bool :=
  (List.range 6).foldl (fun acc k => acc ^^ x.testBit k) false

/-- The chip of code `w` at index `i` (R8). -/
def chip (w i : Nat) : Int :=
  if oddOnes (i &&& w) then -1 else 1

/-- S_n of the SCRAMBLED order (R9). -/
def scrambleOf (n : Nat) : Nat :=
  [0, 45, 27, 54, 11, 38, 60, 17].getD n 0

/-- The code index chip position `p` carries in a cycle at frame position `position` (R9); the
cycle-in-epoch is the position mod 8 (R3). -/
def chipIndex (order : ChipOrder) (position p : Nat) : Nat :=
  match order with
  | .sequential => p
  | .scrambled => p ^^^ scrambleOf (position % 8)

/-! ### Sums and figures -/

/-- A correlation sum on code `w` (R36): chip values weighted by the chips their positions carried. -/
def corrSum (order : ChipOrder) (position w : Nat) (values : List Int) : Int :=
  (values.zipIdx.map fun (v, p) => chip w (chipIndex order position p) * v).sum

/-- The per-cycle influence figure g_cyc (R40), `depth` being K in 10 mA units. -/
def influence (depth : Nat) (xp : Int) : Nat :=
  min 65535 (roundDiv ((xp.natAbs * 1000 : Nat) : Int) (64 * (10 * depth))).toNat

/-- The signed self figure s_cyc (R46) from XP_self and the data bit keyed. -/
def selfFigure (depth : Nat) (xp : Int) (bit : Bool) : Int :=
  let s := if bit then xp else -xp
  clampInt (-65535) 65535 (roundDiv (s * 1000) (64 * (10 * depth)))

/-- The timing error e (R42); none when |XL| + |XE| is 0. -/
def timingError (xe xl : Int) : Option Int :=
  if xl.natAbs + xe.natAbs = 0 then none
  else some (roundDiv (60 * ((xl.natAbs : Int) - xe.natAbs)) (xl.natAbs + xe.natAbs))

/-- The residual of each position (R38). -/
def residuals (order : ChipOrder) (position own : Nat) (xp : Int) (prompt : List Int) : List Int :=
  prompt.zipIdx.map fun (v, p) => v - roundDiv (xp * chip own (chipIndex order position p)) 64

/-- The largest of a list of values minus the smallest; 0 for an empty list. -/
def spread : List Int → Int
  | [] => 0
  | x :: xs => xs.foldl max x - xs.foldl min x

/-- The residual test (R38): whether it finds the cycle disturbed. A spread equal to the limit does
not exceed it. -/
def residualTest (c : Settings) (position : Nat) (xp : Int) (prompt : List Int) : Bool :=
  c.strayLimit < spread (residuals c.order position c.ownCode xp prompt)

/-- Influence smoothing (R48, R61). -/
def smooth (g figure : Nat) : Nat :=
  (clampInt 0 65535 ((g : Int) + roundDiv ((figure : Int) - g) 4)).toNat

/-- What a tracking lane hands over at a cycle end (R41 to R43), with the code it was formed for. -/
structure LaneResult where
  code : Nat
  place : Option Bool
  figure : Option Nat
  timing : Option (Nat × Int)
  deriving DecidableEq, Repr

/-- The results of the lane on code `w` for a cycle whose set is complete, undisturbed and outside
the relock span when `usable` holds (R43). -/
def laneResult (c : Settings) (position : Nat) (usable : Bool) (early prompt late : List Int)
    (w : Nat) : LaneResult :=
  let xp := corrSum c.order position w prompt
  let g := influence c.depth xp
  if !usable then { code := w, place := none, figure := none, timing := none }
  else if g < c.gDetect then { code := w, place := none, figure := some g, timing := none }
  else
    { code := w, place := some (0 < xp), figure := some g,
      timing :=
        (timingError (corrSum c.order position w early) (corrSum c.order position w late)).map
          fun e => (xp.natAbs, e) }

end Sys2Proof.Machine
end

