-- ==== Sys2Proof/Machine/Flags.lean ====
section
/-! DEFINITION. What the flags and facts of the device say: which conditions give output and which listen
(R13, R28), the derivation of the condition (R152), the alarm causes and their clearing (R167,
R168), the STAGE comparison (R16), the warn test (R163) and the lock rules (R77, R78). -/

namespace Sys2Proof.Machine

/-- A condition with output (R12, R13). -/
def Condition.output : Condition → Bool
  | .acquiring | .regulating | .holding | .survey => true
  | .starting | .dark | .brownout | .fault => false

/-- A condition in which P, I and V are sampled (R28). -/
def Condition.samples : Condition → Bool
  | .acquiring | .regulating | .holding | .survey | .dark => true
  | .starting | .brownout | .fault => false

/-- The condition the facts give (R152); before the end of an accepted load it is STARTING, or FAULT
when the load has failed (R166). -/
def conditionOf (loaded : Bool) (u : Supervisor) : Condition :=
  if u.faultCause.isSome then .fault
  else if !loaded then .starting
  else if u.brownout then .brownout
  else if !u.mains then .dark
  else if !u.working then .acquiring
  else if u.surveyRunning then .survey
  else if u.hold || u.warn then .holding
  else .regulating

/-- Whether at least one alarm is latched: the ALM line (R167). -/
def Alarms.any (a : Alarms) : Bool :=
  a.floor || a.ilimit || a.vlimit || a.noself || a.stage || a.supply || a.table || a.capdrop

/-- The capture store holds up to 512 records (R147). -/
def captureLimit : Nat := 512

/-- What CLEAR leaves latched (R168): the latched alarms whose cause is present (R167). -/
def clearedAlarms (s : State) : Alarms :=
  let a := s.supervisor.alarms
  { floor := a.floor && s.regulation.floor
    ilimit := a.ilimit && s.regulation.ilimit
    vlimit := a.vlimit && s.regulation.vlimit
    noself := a.noself && s.regulation.noself
    stage := a.stage && s.keying.stage
    supply := a.supply && s.supervisor.warn
    table := false
    capdrop := a.capdrop && captureLimit ≤ s.capture.records.length }

/-- The alarms with those of regulation's causes latched that are active (R128, R167). -/
def latchCauses (r : Regulation) (a : Alarms) : Alarms :=
  { a with
    floor := a.floor || r.floor
    ilimit := a.ilimit || r.ilimit
    vlimit := a.vlimit || r.vlimit
    noself := a.noself || r.noself }

/-- Whether a cycle is bad (R16): five times the difference exceeds the mean demand plus 1000. -/
def stageBad (meanCurrent : Nat) (meanDemand : Int) : Bool :=
  meanDemand + 1000 < 5 * (((meanCurrent : Int) - meanDemand).natAbs : Int)

/-- The bad and good counts and the STAGE cause after a bad or a good cycle (R16). -/
def stageStep (bad : Bool) (k : Keying) : Keying :=
  match k.stage, bad with
  | false, true =>
    if k.badCount + 1 = 4 then { k with badCount := 0, goodCount := 0, stage := true }
    else { k with badCount := k.badCount + 1, goodCount := 0 }
  | false, false => { k with badCount := 0 }
  | true, true => { k with goodCount := 0 }
  | true, false =>
    if k.goodCount + 1 = 4 then { k with badCount := 0, goodCount := 0, stage := false }
    else { k with badCount := 0, goodCount := k.goodCount + 1 }

/-- The warn flag after a mean S (R163): set below VWARN, cleared 0.30 V above it. -/
def warnAfter (c : Settings) (warn : Bool) (meanS : Nat) : Bool :=
  if warn then meanS < c.warnLevel + 30 else meanS < c.warnLevel

/-- The brownout entry level (R164) and recovery level (R165), in 0.01 V. -/
def brownoutEntryLevel : Nat := 900

/-- See `brownoutEntryLevel`. -/
def brownoutExitLevel : Nat := 950

/-- The supply runs after one S sample (R164, R165): the low run is counted while the brownout flag is
clear, the high run while it is set; each stays at 100 until its event is taken. -/
def supplyRuns (sample : Nat) (u : Supervisor) : Supervisor :=
  if u.brownout then
    { u with highRun := if brownoutExitLevel ≤ sample then countUp 100 u.highRun else 0 }
  else { u with lowRun := if sample < brownoutEntryLevel then countUp 100 u.lowRun else 0 }

/-- The lock state and counts after a cycle end with the weighted error `e` (R77, R78), and whether
the lock was lost there. -/
def lockStep (e : Option Int) (a : Agreement) : Agreement × Bool :=
  match a.lock, e with
  | .unlocked, some e =>
    if e.natAbs ≤ 10 then
      if a.acquisition + 1 = 8 then ({ a with lock := .locked, acquisition := 0, loss := 0 }, false)
      else ({ a with acquisition := a.acquisition + 1 }, false)
    else ({ a with acquisition := 0 }, false)
  | .unlocked, none => ({ a with acquisition := 0 }, false)
  | .locked, some e =>
    if 30 < e.natAbs then
      if a.loss + 1 = 16 then ({ a with lock := .unlocked, acquisition := 0, loss := 0 }, true)
      else ({ a with loss := a.loss + 1 }, false)
    else ({ a with loss := 0 }, false)
  | .locked, none => (a, false)
  | .solitary, _ => (a, false)

end Sys2Proof.Machine
end

