-- ==== Sys2Proof/Machine/Operands.lean ====
section
/-! DEFINITION. How operands are read: the saturation of the four sensed inputs (R19), the configuration
image (R155, R179, R181), and the words of a service line (R171, R172). -/

namespace Sys2Proof.Machine

/-! ### Sensed inputs (R19) -/

/-- A P sample, in 0.1 mV. -/
def potentialSample (x : Int) : Int := clampInt (-40000) 10000 x

/-- An I sample, in mA. -/
def currentSample (x : Int) : Nat := (clampInt 0 65000 x).toNat

/-- A V sample, in 0.1 V. -/
def voltageSample (x : Int) : Nat := (clampInt 0 1000 x).toNat

/-- An S sample, in 0.01 V. -/
def supplySample (x : Int) : Nat := (clampInt 0 2000 x).toNat

/-! ### The configuration image -/

/-- Byte `n` of the image as a number. -/
def imageByte (image : List Byte) (n : Nat) : Nat := (image.getD n 0).toNat

/-- The two-byte unsigned field at bytes `n` and `n + 1`, big-endian (R179). -/
def imageWord (image : List Byte) (n : Nat) : Nat :=
  256 * imageByte image n + imageByte image (n + 1)

/-- The two-byte signed field at byte `n` (R179). -/
def imageSigned (image : List Byte) (n : Nat) : Int :=
  if imageWord image n < 32768 then imageWord image n else (imageWord image n : Int) - 65536

/-- W in ms from the W code (R181). -/
def windowOf (code : Nat) : Nat := [100, 150, 200, 250].getD code 250

/-- Whether a value lies within a stated range. -/
def within (lo hi x : Int) : Bool := lo ≤ x && x ≤ hi

/-- The three checks of R155: the mark, the sum and the ranges of R181. An image that is not thirty
bytes long was not read whole and is refused (log 24). -/
def imageAccepted (image : List Byte) : Bool :=
  let t := imageSigned image 2
  let k : Int := imageByte image 19
  let iMax : Int := imageWord image 6
  let iMin : Int := imageWord image 8
  image.length = 30
    && imageByte image 0 = 0xC7
    && (image.map BitVec.toNat).sum % 256 = 0
    && within 1 63 (imageByte image 1)
    && within (-2000) (-500) t
    && within (-2500) (t - 50) (imageSigned image 4)
    && within 50 (6000 - k) iMax
    && within k iMax iMin
    && within iMin iMax (imageWord image 10)
    && within 50 600 (imageWord image 12)
    && within 1 255 (imageByte image 14)
    && within 1 8 (imageByte image 15)
    && within 0 50 (imageByte image 16)
    && within 1 64 (imageByte image 17)
    && within 0 16 (imageByte image 18)
    && within 10 200 k
    && within 0 3 (imageByte image 20)
    && within 10 ((windowOf (imageByte image 20) : Int) - 10) (imageByte image 21)
    && within 20 500 (imageWord image 22)
    && within 0 1 (imageByte image 24)
    && within 5 500 (imageWord image 25)
    && within 16 255 (imageByte image 27)
    && within 100 135 (imageByte image 28)

/-- The I2C address of the serial memory, and the byte address the read starts from (R154, R181). -/
def memoryDevice : Nat := 0x50

/-- See `memoryDevice`. -/
def imageStart : Nat := 0

/-- The transfer that reads the image (R154): the memory addressed for writing, the byte address, the
memory addressed for reading, and bytes 0 to 29, all but the last acknowledged. -/
def imageTransfer : List BusAction :=
  [.start, .address memoryDevice false, .byteAddress imageStart, .repeatedStart,
    .address memoryDevice true] ++
    (List.range 30).map (fun n => .data n (n < 29)) ++ [.stop]

/-- How many actions of the transfer are over once its first, second or third address byte is (R154). -/
def actionsThrough (byte : Nat) : Nat :=
  if byte ≤ 1 then 2 else if byte = 2 then 3 else 5

/-- The transfer of a load whose memory left an address byte unacknowledged (R156). -/
def nackedTransfer (byte : Nat) : List BusAction :=
  imageTransfer.take (actionsThrough byte) ++ [.stop]

/-- The image's fields in working units (R179). -/
def settingsOf (image : List Byte) : Settings where
  ownCode := imageByte image 1
  target := 10 * imageSigned image 2
  floor := 10 * imageSigned image 4
  iMax := imageWord image 6
  iMin := imageWord image 8
  iStart := imageWord image 10
  vMax := imageWord image 12
  stepLimit := imageByte image 14
  gain := imageByte image 15
  deadBand := 10 * imageByte image 16
  spacing := imageByte image 17
  settle := imageByte image 18
  depth := imageByte image 19
  windowLength := windowOf (imageByte image 20)
  sampleDelay := imageByte image 21
  strayLimit := 10 * imageWord image 22
  order := if imageByte image 24 = 1 then .scrambled else .sequential
  gDetect := imageWord image 25
  refresh := imageByte image 27
  warnLevel := 10 * imageByte image 28

/-! ### A service line -/

/-- A service command with its arguments (R172). -/
inductive ServiceCommand where
  | status
  | table
  | capt (n : Nat)
  | hold
  | free
  | survey (kind : SurveyKind) (count : Nat)
  | clear
  | restart
  deriving DecidableEq, Repr

/-- Whether the number arguments lie in their ranges (R172). -/
def ServiceCommand.inRange : ServiceCommand → Bool
  | .capt n => 1 ≤ n && n ≤ 64
  | .survey _ count => 1 ≤ count && count ≤ 31
  | .status | .table | .hold | .free | .clear | .restart => true

/-- Whether the command is refused with ?STATE in a condition (R173). -/
def ServiceCommand.refusedIn (condition : Condition) : ServiceCommand → Bool
  | .status => false
  | .survey _ _ => !(condition = .regulating || condition = .holding || condition = .survey)
  | .table | .capt _ | .hold | .free | .clear | .restart => condition = .starting

/-- The words of a line: its runs of characters other than spaces (R172). -/
def wordsOf (line : Text) : List Text :=
  (line.splitOn ' ').filter fun w => !w.isEmpty

/-- A number argument: decimal digits only, leading zeros allowed (R172). -/
def numberOf (word : Text) : Option Nat :=
  if !word.isEmpty && word.all (fun ch => '0' ≤ ch && ch ≤ '9') then
    some (word.foldl (fun acc ch => 10 * acc + (ch.toNat - 48)) 0)
  else none

/-- A survey kind argument (R172). -/
def kindOf (word : Text) : Option SurveyKind :=
  if word = "INTERRUPT".toList then some .interrupt
  else if word = "DEPOLARIZE".toList then some .depolarize
  else if word = "FREEZE".toList then some .freeze
  else if word = "NONE".toList then some .none
  else none

/-- The command a line's words name, with the right number and form of arguments; none for a line
that is answered ?ERR (R172). -/
def commandOf : List Text → Option ServiceCommand
  | [w] =>
    if w = "STATUS".toList then some .status
    else if w = "TABLE".toList then some .table
    else if w = "HOLD".toList then some .hold
    else if w = "FREE".toList then some .free
    else if w = "CLEAR".toList then some .clear
    else if w = "RESTART".toList then some .restart
    else none
  | [w, a] => if w = "CAPT".toList then (numberOf a).map .capt else none
  | [w, a, b] =>
    if w = "SURVEY".toList then
      match kindOf a, numberOf b with
      | some kind, some count => some (.survey kind count)
      | _, _ => none
    else none
  | _ => none

/-- The characters of a buffer (R170). -/
def bufferText (buffer : List Byte) : Text :=
  buffer.map fun b => Char.ofNat b.toNat

end Sys2Proof.Machine
end

