-- ==== Sys2Proof/Machine/Frames.lean ====
section
/-! DEFINITION. The corridor frame: its layout (R180), its check (R95), the frame a station builds (R94), the
test of a bit history (R98 to R101), and what a lane's bit place does to its entry at a cycle end
(R59, R83 to R86, R97, R102, R103). -/

namespace Sys2Proof.Machine

/-! ### Fields -/

/-- `n` as `width` places, most significant first (R179). -/
def placesOf (width n : Nat) : List Bool :=
  (List.range width).reverse.map n.testBit

/-- The number that places hold, most significant first (R179). -/
def numberAt (places : List Bool) : Nat :=
  places.foldl (fun acc b => 2 * acc + b.toNat) 0

/-- A step as a nine-place two's complement number (R94, R180). -/
def stepPlaces (step : Int) : List Bool :=
  placesOf 9 (step % 512).toNat

/-- The step that nine places hold (R179). -/
def stepAt (places : List Bool) : Int :=
  if numberAt places < 256 then numberAt places else (numberAt places : Int) - 512

/-- The field value of a survey kind (R180). -/
def kindCode : SurveyKind → Nat
  | .none => 0
  | .interrupt => 1
  | .depolarize => 2
  | .freeze => 3

/-- The survey kind of a field value (R180). -/
def kindAt (n : Nat) : SurveyKind :=
  [SurveyKind.none, .interrupt, .depolarize, .freeze].getD n .none

/-- The condition field a station sends (R94): DARK, BROWNOUT and FAULT send 0. -/
def conditionCode : Condition → Nat
  | .regulating => 1
  | .holding => 2
  | .survey => 3
  | .starting | .acquiring | .dark | .brownout | .fault => 0

/-- The condition of a field value (R180). -/
def frameConditionAt (n : Nat) : FrameCondition :=
  [FrameCondition.acquiring, .regulating, .holding, .survey].getD n .acquiring

/-! ### The check (R95) -/

/-- One place through the four-place register. -/
def checkStep (register : Nat) (place : Bool) : Nat :=
  let shifted := 2 * register % 16
  if place ^^ (8 ≤ register) then shifted ^^^ 3 else shifted

/-- The register after a list of places, from 0000. -/
def checkOf (places : List Bool) : Nat :=
  places.foldl checkStep 0

/-! ### Building the own frame -/

/-- The phase by which every rule reads the record: NONE while it is not valid (R134). -/
def Survey.phaseNow (v : Survey) : SurveyPhase :=
  if v.valid then v.phase else .over

/-- 32-frame units of a number of frames, rounded up (R94, R138). -/
def unitsOf (frames : Nat) : Nat := (frames + 31) / 32

/-- The survey fields of the own frame: generation, kind, phase and count (R94). -/
def surveyPlaces (v : Survey) : List Bool :=
  placesOf 4 (if v.valid then v.generation else 0) ++
    match v.phaseNow with
    | .over => placesOf 2 0 ++ placesOf 1 0 ++ placesOf 5 0
    | .pending => placesOf 2 (kindCode v.kind) ++ placesOf 1 0 ++ placesOf 5 v.count
    | .running => placesOf 2 (kindCode v.kind) ++ placesOf 1 1 ++ placesOf 5 (unitsOf v.count)

/-- The 28 places before the check (R94, R180). -/
def framePlaces (condition : Condition) (step : Int) (v : Survey) (limit health : Bool) :
    List Bool :=
  [true, true, false] ++ placesOf 2 (conditionCode condition) ++ stepPlaces step ++
    surveyPlaces v ++ [limit, health]

/-- The own frame: its places with the check (R94, R95). -/
def buildFrame (condition : Condition) (step : Int) (v : Survey) (limit health : Bool) :
    List Bool :=
  let places := framePlaces condition step v limit health
  places ++ placesOf 4 (checkOf places)

/-! ### Reading a history as a frame -/

/-- The field at `start` of `width` places. -/
def fieldAt (places : List Bool) (start width : Nat) : List Bool :=
  (places.drop start).take width

/-- The survey phase that kind, phase place and count read as, when they form a combination of R99. -/
def surveyReading (kind : SurveyKind) (running : Bool) (count : Nat) : Option SurveyPhase :=
  if kind = .none then if !running && count = 0 then some .over else none
  else if running then if 1 ≤ count && count ≤ 16 then some .running else none
  else if 1 ≤ count && count ≤ 31 then some .pending else none

/-- The frame that 32 decided places show, with age 0, when the start pattern, the check and the
content pass (R98, R99). -/
def readFrame (places : List Bool) : Option FrameRecord :=
  let step := stepAt (fieldAt places 5 9)
  let kind := kindAt (numberAt (fieldAt places 18 2))
  let count := numberAt (fieldAt places 21 5)
  if places.length = 32 && fieldAt places 0 3 = [true, true, false] && checkOf places = 0
      && -255 ≤ step then
    (surveyReading kind (places.getD 20 false) count).map fun phase =>
      { condition := frameConditionAt (numberAt (fieldAt places 3 2))
        step := step
        generation := numberAt (fieldAt places 14 4)
        kind := kind
        phase := phase
        count := count
        limit := places.getD 26 false
        health := places.getD 27 false
        age := 0 }
  else none

/-- The history with its erased places filled with one value. -/
def filled (value : Bool) (history : List (Option Bool)) : List Bool :=
  history.map fun p => p.getD value

/-- How many places are erased. -/
def erasedCount (history : List (Option Bool)) : Nat :=
  history.countP Option.isNone

/-- The valid frame a history shows, if any: with one erased place by two trials of which exactly one
passes, with two or more none (R98, R100, R101). -/
def frameTest (history : List (Option Bool)) : Option FrameRecord :=
  if erasedCount history = 0 then readFrame (filled false history)
  else if erasedCount history = 1 then
    match readFrame (filled false history), readFrame (filled true history) with
    | some r, none => some r
    | none, some r => some r
    | _, _ => none
  else none

/-! ### What a bit place does to its entry -/

/-- The sender test and the offset rule of R86: whether a confirmed frame brings a realignment. -/
def realigns (own : Condition) (ownCode : Nat) (sender : FrameCondition) (senderCode offset : Nat) :
    Bool :=
  if own = .acquiring && sender ≠ .acquiring then true
  else if own = .acquiring || sender = .regulating || sender = .survey then
    offset ≤ 15 || (offset = 16 && ownCode < senderCode)
  else false

/-- An entry after a cycle end, its lane's frame watch, and what was found: whether a frame was
accepted, whether it was an aligned one, and whether it calls for a realignment. -/
structure EntryOutcome where
  entry : Entry
  watch : Option Nat
  handed : Bool
  accepted : Bool
  aligned : Bool
  realigns : Bool
  deriving DecidableEq, Repr

/-- An entry written with new parity (R70). -/
def Entry.written (e : Entry) : Entry := { e with parityGood := true }

/-- The entry with a figure added to its frame sum (R59). -/
def Entry.gather (figure : Option Nat) (e : Entry) : Entry :=
  match figure with
  | some g => { e with frameSum := e.frameSum + g, frameCount := e.frameCount + 1 }
  | none => e

/-- The entry with its history advanced by one place (R97). -/
def Entry.advance (place : Option Bool) (e : Entry) : Entry :=
  { e with history := e.history.drop 1 ++ [place] }

/-- The distance from a recorded cycle count to the present one, mod 65536 (R84). -/
def countsSince (now recorded : Nat) : Nat := (now + 65536 - recorded) % 65536

/-- Whether a misaligned frame at `offset` is confirmed by the entry's pending offset (R84). -/
def Entry.confirms (now offset : Nat) (e : Entry) : Bool :=
  match e.offset with
  | some p => p.offset = offset && countsSince now p.count = 32
  | none => false

/-- The entry with a stale pending offset dropped (R84): at the 33rd cycle end after its recording. -/
def Entry.dropStale (now : Nat) (e : Entry) : Entry :=
  match e.offset with
  | some p => if 33 ≤ countsSince now p.count then { e with offset := none } else e
  | none => e

/-- The frame watch, and the discarded-frame count it leads to (R101, R102). -/
def watchAfter (now : Nat) (valid : Bool) (watch : Option Nat) (discarded : Nat) :
    Option Nat × Nat :=
  if valid then (some ((now + 32) % 65536), discarded)
  else
    match watch with
    | some due =>
      if due = now then (some ((due + 32) % 65536), countUp 255 discarded) else (watch, discarded)
    | none => (none, discarded)

/-- The class of a valid frame found at frame position `p` (R83). -/
inductive FrameClass where
  | aligned
  | misaligned (offset : Nat)
  | ignored
  deriving DecidableEq, Repr

/-- See `FrameClass` (R83). -/
def frameClass (p : Nat) : FrameClass :=
  if p = 31 then .aligned else if p = 0 then .ignored else .misaligned (31 - p)

/-- An entry whose lane handed the result `r` at the cycle end of a cycle at position `p`, the cycle
count being `now` and the station's condition `own` (R59, R84, R86, R97, R98, R101 to R103). A
station that does not decode finds no valid frame (R82, R86, R146, log 14). -/
def entryAtCycleEnd (c : Settings) (own : Condition) (decodes : Bool) (p now : Nat) (watch : Option Nat)
    (r : LaneResult) (e : Entry) : EntryOutcome :=
  let e := (e.gather r.figure).advance r.place
  let found := if decodes then frameTest e.history else none
  let (watch, discarded) := watchAfter now found.isSome watch e.discarded
  let e := Entry.written { e with discarded := discarded }
  let plain : EntryOutcome :=
    { entry := e, watch := watch, handed := true, accepted := false, aligned := false,
      realigns := false }
  match found, frameClass p with
  | none, _ => plain
  | some _, .ignored => plain
  | some f, .aligned =>
    { plain with entry := { e with offset := none, record := some f }, accepted := true,
                 aligned := true }
  | some f, .misaligned o =>
    let recorded := { e with offset := some { offset := o, count := now } }
    if e.confirms now o then
      { plain with
        entry := { recorded with record := some f }
        accepted := true
        realigns := realigns own c.ownCode f.condition e.code o }
    else { plain with entry := recorded }

/-- An entry no lane handed a result for: only a stale pending offset can change. -/
def entryWithoutResult (e : Entry) : EntryOutcome :=
  { entry := e, watch := none, handed := false, accepted := false, aligned := false,
    realigns := false }

end Sys2Proof.Machine
end

