-- ==== Sys2Proof/Machine/Regulate.lean ====
section
/-! DEFINITION. The regulation engine's boundary work: apply (R112, R113), the frame mean (R115), the survey
adjustment (R131) and the plan (R116 to R129), and the valid-sample test of a cycle end (R114). -/

namespace Sys2Proof.Machine

/-! ### Samples -/

/-- Whether the instant-off sample of a cycle at `position` is valid (R114); `disturbed` is the
cycle's mark. -/
def sampleValid (c : Settings) (settle disturbed : Bool) (position : Nat) (o : InstantOff) : Bool :=
  !disturbed && (!settle || c.settle ≤ position) && o.tag = .regulating

/-- The sample sum and count after a cycle end (R114). -/
def gatherSample (c : Settings) (disturbed : Bool) (position : Nat) (o : Option InstantOff)
    (r : Regulation) : Regulation :=
  match o with
  | some o =>
    if sampleValid c r.settle disturbed position o then
      { r with sampleSum := r.sampleSum + o.value, sampleCount := r.sampleCount + 1 }
    else r
  | none => r

/-- The frame mean of the frame that closes, with the sum and count returned to 0 (R115). -/
def closeMean (r : Regulation) : Regulation :=
  { r with
    frameMean := if r.sampleCount = 0 then none else some (roundDiv r.sampleSum r.sampleCount)
    sampleSum := 0
    sampleCount := 0 }

/-! ### Apply and survey adjustment -/

/-- The applied step u in mA (R112): ten times the staged step, 0 at a forced boundary. -/
def appliedStep (kind : BoundaryKind) (r : Regulation) : Int :=
  match kind with
  | .ordinary => 10 * r.staged
  | .forced => 0

/-- The apply stage (R112, R113); `neighbourStep` says whether a TRACKED entry's frame accepted at
this boundary announces a nonzero step. -/
def applyStep (kind : BoundaryKind) (neighbourStep : Bool) (r : Regulation) : Regulation :=
  { r with
    setCurrent :=
      match kind with
      | .ordinary => r.setCurrent.map (· + r.staged)
      | .forced => r.setCurrent
    staged := 0
    settle := appliedStep kind r ≠ 0 || neighbourStep }

/-- The survey coordinator's requests (R131, R142). -/
inductive SurveyRequest where
  | forceToDepth
  | restore
  deriving DecidableEq, Repr

/-- The survey adjustment stage (R131). -/
def adjustForSurvey (c : Settings) (request : Option SurveyRequest) (r : Regulation) : Regulation :=
  match request with
  | none => r
  | some .forceToDepth =>
    { r with
      resume := r.resume.or r.setCurrent
      setCurrent := some (c.depth : Int)
      settle := true }
  | some .restore =>
    { r with setCurrent := r.resume.or r.setCurrent, resume := none, settle := true }

/-! ### The plan -/

/-- What a plan reads (R111): the frame mean, g_self and its valid flag, the set current after the
earlier stages, the applied step, the influence and announced step (in 10 mA units) of the
neighbours it may allow for, the voltage-limit flag and the spacing count after its advance. -/
structure PlanInput where
  mean : Option Int
  gSelf : Nat
  gSelfValid : Bool
  setCurrent : Int
  applied : Int
  neighbours : List (Nat × Int)
  voltageLimit : Bool
  spacing : Option Nat
  deriving DecidableEq, Repr

/-- What a plan gives: the staged step in 10 mA units and the four causes. -/
structure Plan where
  step : Int
  floor : Bool
  ilimit : Bool
  vlimit : Bool
  noself : Bool
  deriving DecidableEq, Repr

/-- The plan that ends with a step of 0 and only NOSELF possibly active (R117, R120). -/
def zeroPlan (noself : Bool) : Plan :=
  { step := 0, floor := false, ilimit := false, vlimit := false, noself := noself }

/-- The second precondition of R117. -/
def noUsableSelf (c : Settings) (i : PlanInput) : Bool :=
  !i.gSelfValid || i.gSelf < c.gDetect

/-- The third precondition of R117 (R118). -/
def spacingHolds (c : Settings) (i : PlanInput) : Bool :=
  match i.spacing with
  | some n => n < c.spacing
  | none => false

/-- The anticipation A (R119). -/
def anticipation (i : PlanInput) : Int :=
  roundDiv ((i.gSelf : Int) * i.applied +
    (i.neighbours.map fun n => (n.1 : Int) * (10 * n.2)).sum) 1000

/-- The raw step q (R121). -/
def rawStep (c : Settings) (i : PlanInput) (r : Int) : Int :=
  roundDiv (c.gain * r * 1000) (8 * i.gSelf)

/-- The floor stage (R122). -/
def floorStep (c : Settings) (i : PlanInput) (mean q : Int) : Int :=
  if mean < c.floor then min q (-roundDiv ((c.floor - mean) * 1000) i.gSelf) else q

/-- The step limit and the quantising (R123, R124). -/
def limitStep (c : Settings) (q : Int) : Int :=
  10 * roundDiv (clampInt (-(10 * c.stepLimit)) (10 * c.stepLimit) q) 10

/-- The range stage (R125): the step and the ILIMIT cause. -/
def rangeStep (c : Settings) (i : PlanInput) (q : Int) : Int × Bool :=
  let sum := 10 * i.setCurrent + q
  if 10 * c.iMax < sum then (10 * c.iMax - 10 * i.setCurrent, true)
  else if sum < 10 * c.iMin then (10 * c.iMin - 10 * i.setCurrent, false)
  else (q, false)

/-- The stages from the floor to the voltage hold, after the dead band (R121 to R127). -/
def limitedPlan (c : Settings) (i : PlanInput) (mean r : Int) : Plan :=
  let q := limitStep c (floorStep c i mean (rawStep c i r))
  let (q, ilimit) := rangeStep c i q
  let held := i.voltageLimit && 0 < q
  { step := if held then 0 else q / 10
    floor := mean < c.floor
    ilimit := ilimit
    vlimit := held
    noself := false }

/-- The plan of a boundary at which the condition for the new frame is REGULATING (R117 to R127). -/
def planStep (c : Settings) (i : PlanInput) : Plan :=
  match i.mean with
  | none => zeroPlan (noUsableSelf c i)
  | some mean =>
    if noUsableSelf c i || spacingHolds c i then zeroPlan (noUsableSelf c i)
    else
      let r := mean - c.target - anticipation i
      if r.natAbs < c.deadBand && c.floor ≤ mean then zeroPlan false
      else limitedPlan c i mean r

/-- The engine after the plan stage (R116, R127 to R129); `regulating` says whether the condition for
the new frame is REGULATING. -/
def planStage (c : Settings) (regulating : Bool) (gSelf : Nat) (gSelfValid voltageLimit : Bool)
    (applied : Int) (neighbours : List (Nat × Int)) (r : Regulation) : Regulation :=
  let spacing := r.spacing.map (countUp 255)
  if regulating then
    let plan := planStep c
      { mean := r.frameMean, gSelf := gSelf, gSelfValid := gSelfValid,
        setCurrent := r.setCurrent.getD 0, applied := applied, neighbours := neighbours,
        voltageLimit := voltageLimit, spacing := spacing }
    { r with
      staged := plan.step
      floor := plan.floor
      ilimit := plan.ilimit
      vlimit := plan.vlimit
      noself := plan.noself
      spacing := if plan.step = 0 then spacing else some 0
      noMeasure :=
        if r.frameMean.isNone && r.beganRegulating then countUp 65535 r.noMeasure else r.noMeasure
      beganRegulating := true }
  else
    { r with
      staged := 0
      floor := false
      ilimit := false
      vlimit := false
      noself := false
      spacing := spacing
      beganRegulating := false }

end Sys2Proof.Machine
end

