-- ==== Sys2Proof/Machine/Coordinate.lean ====
section
/-! DEFINITION. The survey coordinator's boundary work: the order of generations (R136), adoption (R137),
merging (R138), the countdown (R139, R140), origination (R141) and the requests (R142). -/

namespace Sys2Proof.Machine

/-- A frame the coordinator considers: its sender's code and its record (R135). -/
structure SurveyFrame where
  sender : Nat
  record : FrameRecord
  deriving DecidableEq, Repr

/-- The run length of a kind, in frames (R134). -/
def runLength : SurveyKind → Nat
  | .none => 0
  | .interrupt => 512
  | .depolarize => 256
  | .freeze => 256

/-- Whether generation `a` is ahead of `b` by the serial test: the difference mod 16 in 1..7 (R136). -/
def generationAhead (a b : Nat) : Bool :=
  let d := (a + 16 - b) % 16
  1 ≤ d && d ≤ 7

/-- Whether a frame is newer than the own record (R136). -/
def Survey.isNewer (v : Survey) (f : FrameRecord) : Bool :=
  !(f.generation = 0 && f.kind = .none) && (!v.valid || generationAhead f.generation v.generation)

/-- Of two frames, the one from the lower sender code. -/
def lowerSender (best : Option SurveyFrame) (f : SurveyFrame) : Option SurveyFrame :=
  match best with
  | some b => if f.sender < b.sender then some f else some b
  | none => some f

/-- The newest of the newer frames (R137): among those no other newer frame exceeds, or among all of
them where each is exceeded, the frame of the lowest sender code (log 15). -/
def newestFrame (newer : List SurveyFrame) : Option SurveyFrame :=
  let unexceeded := newer.filter fun f =>
    newer.all fun f' => !generationAhead f'.record.generation f.record.generation
  (if unexceeded.isEmpty then newer else unexceeded).foldl lowerSender none

/-- The record's kind, phase and count taken from a frame (R137). -/
def Survey.take (f : FrameRecord) (v : Survey) : Survey :=
  { v with
    kind := f.kind
    phase := f.phase
    count :=
      match f.phase with
      | .over => 0
      | .pending => f.count
      | .running => 32 * f.count }

/-- Adoption (R137). -/
def Survey.adopt (frames : List SurveyFrame) (v : Survey) : Survey :=
  match newestFrame (frames.filter fun f => v.isNewer f.record) with
  | some f => { v.take f.record with valid := true, generation := f.record.generation }
  | none => v

/-- One same-generation frame taken into the record (R138). -/
def Survey.mergeOne (v : Survey) (f : FrameRecord) : Survey :=
  if f.kind = .none || f.phase = .over || v.phaseNow = .over then v
  else if kindCode f.kind < kindCode v.kind then v.take f
  else if f.kind ≠ v.kind then v
  else
    match v.phase, f.phase with
    | .pending, .pending => if f.count < v.count then { v with count := f.count } else v
    | .pending, .running => { v with phase := .running, count := 32 * f.count }
    | .running, .running => if f.count < unitsOf v.count then { v with count := 32 * f.count } else v
    | _, _ => v

/-- Merging (R138). -/
def Survey.merge (frames : List SurveyFrame) (v : Survey) : Survey :=
  (frames.filter fun f => f.record.generation = v.generation).foldl
    (fun v f => v.mergeOne f.record) v

/-- The countdown (R139, R140). -/
def Survey.countDown (v : Survey) : Survey :=
  match v.phaseNow with
  | .over => v
  | .pending =>
    if v.count ≤ 1 then { v with phase := .running, count := runLength v.kind }
    else { v with count := v.count - 1 }
  | .running =>
    if v.count ≤ 1 then { v with phase := .over, count := 0 } else { v with count := v.count - 1 }

/-- Origination (R141). -/
def Survey.originate (v : Survey) : Survey :=
  match v.origination with
  | none => v
  | some (kind, count) =>
    { valid := true
      generation := if v.valid then (v.generation + 1) % 16 else 1
      kind := kind
      phase := if kind = .none then .over else .pending
      count := if kind = .none then 0 else count
      origination := none }

/-- The coordinator's boundary work (R135). -/
def Survey.boundary (frames : List SurveyFrame) (v : Survey) : Survey :=
  (((v.adopt frames).merge frames).countDown).originate

/-- Whether the record is RUNNING with a kind. -/
def Survey.runs (kind : SurveyKind) (v : Survey) : Bool :=
  v.phaseNow = .running && v.kind = kind

/-- The request made at a boundary, from the record before and after it (R142). -/
def surveyRequest (before after : Survey) : Option SurveyRequest :=
  if after.runs .depolarize then
    if before.runs .depolarize && before.generation = after.generation then none
    else some .forceToDepth
  else if before.runs .depolarize then some .restore
  else none

end Sys2Proof.Machine
end

