-- ==== Sys2Proof/Machine/Neighbours.lean ====
section
/-! DEFINITION. The neighbour table: admission (R56 to R58), the update and ageing of a boundary (R61 to
R63), the arbitration of the lanes (R64 to R67), what the table presents (R68), and the ageing of
frame records (R105). Slots are a list of eight; lanes are numbered 1 to 4. -/

namespace Sys2Proof.Machine

/-! ### Reading the slots -/

/-- The entries, in slot order. -/
def entriesOf (slots : List (Option Entry)) : List Entry := slots.filterMap id

/-- The codes of all entries (R68). -/
def codesOf (slots : List (Option Entry)) : List Nat := (entriesOf slots).map Entry.code

/-- Every entry changed by a function that may remove it. -/
def mapEntries (f : Entry → Option Entry) (slots : List (Option Entry)) : List (Option Entry) :=
  slots.map fun o => o.bind f

/-- Whether an entry is bound to a lane. -/
def Entry.isTracked (e : Entry) : Bool := e.state = .tracked

/-- The entry bound to a lane, if any. -/
def holderOf (lane : Nat) (slots : List (Option Entry)) : Option Entry :=
  (entriesOf slots).find? fun e => e.isTracked && e.lane = some lane

/-- The code each of lanes 1 to 4 is bound to, or none for a free lane (R68). -/
def boundCodes (slots : List (Option Entry)) : List (Option Nat) :=
  [1, 2, 3, 4].map fun lane => (holderOf lane slots).map Entry.code

/-- The watches with those of the given lanes dropped (R102). -/
def dropWatches (lanes : List Nat) (watches : List (Option Nat)) : List (Option Nat) :=
  watches.zipIdx.map fun (w, k) => if lanes.contains (k + 1) then none else w

/-! ### Admission -/

/-- A new CANDIDATE (R57). -/
def newEntry (code figure : Nat) : Entry where
  code := code
  state := .candidate
  lane := none
  g := figure
  gValid := false
  frameSum := 0
  frameCount := 0
  age := 0
  low := 0
  history := List.replicate 32 none
  offset := none
  discarded := 0
  record := none
  parityGood := true

/-- Of two entries, the one with the smaller g; where equal, the one with the higher code. -/
def weaker (best : Option Entry) (e : Entry) : Option Entry :=
  match best with
  | some b => if e.g < b.g || (e.g = b.g && b.code < e.code) then some e else some b
  | none => some e

/-- The weakest of some entries (R58, R66). -/
def weakest (entries : List Entry) : Option Entry := entries.foldl weaker none

/-- The slots with the entry in slot `k`. -/
def putEntry (k : Nat) (e : Entry) (slots : List (Option Entry)) : List (Option Entry) :=
  slots.set k (some e)

/-- The slot of the entry with a code. -/
def slotOf (code : Nat) (slots : List (Option Entry)) : Option Nat :=
  slots.findIdx? fun o => o.any fun e => e.code = code

/-- An offer of a code with its dwell figure (R56 to R58). -/
def admitOffer (ownCode code figure : Nat) (slots : List (Option Entry)) : List (Option Entry) :=
  if code = ownCode || (codesOf slots).contains code then slots
  else
    match slots.findIdx? Option.isNone with
    | some k => putEntry k (newEntry code figure) slots
    | none =>
      match weakest ((entriesOf slots).filter fun e => e.state = .parked) with
      | some e =>
        if e.g < figure then
          match slotOf e.code slots with
          | some k => putEntry k (newEntry code figure) slots
          | none => slots
        else slots
      | none => slots

/-! ### The boundary's update and ageing -/

/-- A TRACKED entry's frame figure (R61). -/
def Entry.figure (e : Entry) : Option Nat :=
  if e.frameCount = 0 then none
  else some (roundDiv e.frameSum e.frameCount).toNat

/-- A TRACKED entry updated from the frame that ends (R61). -/
def Entry.closeFrame (c : Settings) (e : Entry) : Entry :=
  match e.figure with
  | none => Entry.written { e with age := countUp 255 e.age, frameSum := 0, frameCount := 0 }
  | some figure =>
    Entry.written
      { e with
        g := if e.gValid then smooth e.g figure else figure
        gValid := true
        age := 0
        low := if figure < c.gDetect / 2 then countUp 2 e.low else 0
        frameSum := 0
        frameCount := 0 }

/-- The age at which a PARKED or CANDIDATE entry is removed (R63). -/
def removalLimit (c : Settings) : Nat := min 255 (2 * c.refresh)

/-- An entry after steps (a) and (b) of the boundary work (R60 to R63); none when it is removed. -/
def Entry.atBoundary (c : Settings) (e : Entry) : Option Entry :=
  if e.isTracked then
    let e := e.closeFrame c
    if e.low = 2 then none else some e
  else
    let e := Entry.written { e with age := countUp 255 e.age }
    if removalLimit c ≤ e.age then none else some e

/-- The lanes closed by loss at a boundary (R62). -/
def lostLanes (c : Settings) (slots : List (Option Entry)) : List Nat :=
  (entriesOf slots).filterMap fun e =>
    if e.isTracked && (e.atBoundary c).isNone then e.lane else none

/-! ### Arbitration -/

/-- Whether waiter `a` ranks above waiter `b` (R64). -/
def outranks (a b : Entry) : Bool :=
  match a.state, b.state with
  | .candidate, .candidate => b.g < a.g || (a.g = b.g && a.code < b.code)
  | .candidate, _ => true
  | _, .candidate => false
  | _, _ => b.age < a.age || (a.age = b.age && a.code < b.code)

/-- Of two waiters, the one that ranks higher. -/
def higher (best : Option Entry) (e : Entry) : Option Entry :=
  match best with
  | some b => if outranks e b then some e else some b
  | none => some e

/-- The waiters as they stand (R64). -/
def waitersOf (slots : List (Option Entry)) : List Entry :=
  (entriesOf slots).filter fun e => !e.isTracked

/-- The best waiter (R64). -/
def bestWaiter (slots : List (Option Entry)) : Option Entry :=
  (waitersOf slots).foldl higher none

/-- The free lanes, lowest first (R64). -/
def freeLanes (slots : List (Option Entry)) : List Nat :=
  [1, 2, 3, 4].filter fun lane => (holderOf lane slots).isNone

/-- An entry to which a lane has been opened (R67). -/
def Entry.openTo (lane : Nat) (e : Entry) : Entry :=
  Entry.written
    { e with
      state := .tracked
      lane := some lane
      history := List.replicate 32 none
      offset := none
      frameSum := 0
      frameCount := 0
      low := 0 }

/-- An entry evicted from its lane (R66). -/
def Entry.evict (e : Entry) : Entry :=
  Entry.written { e with state := .parked, lane := none, age := 0 }

/-- The entry of a code changed. -/
def changeCode (code : Nat) (f : Entry → Entry) (slots : List (Option Entry)) :
    List (Option Entry) :=
  mapEntries (fun e => some (if e.code = code then f e else e)) slots

/-- The two tests of R66, with `least` the smallest g among TRACKED entries. -/
def evictionDue (c : Settings) (least : Nat) (slots : List (Option Entry)) : Bool :=
  (waitersOf slots).any fun e =>
    match e.state with
    | .parked => c.refresh / 2 ≤ e.age
    | .candidate => least < e.g
    | .tracked => false

/-- The arbitration of a boundary (R64 to R67): the slots after it, and the lane it opened. -/
def arbitrate (c : Settings) (slots : List (Option Entry)) : List (Option Entry) × Option Nat :=
  match bestWaiter slots with
  | none => (slots, none)
  | some b =>
    match freeLanes slots with
    | lane :: _ => (changeCode b.code (Entry.openTo lane) slots, some lane)
    | [] =>
      match weakest ((entriesOf slots).filter Entry.isTracked) with
      | none => (slots, none)
      | some w =>
        if evictionDue c w.g slots then
          (changeCode b.code (Entry.openTo (w.lane.getD 0)) (changeCode w.code Entry.evict slots),
            w.lane)
        else (slots, none)

/-- Steps (a) to (d) of the boundary work (R60) with the offer that falls at the boundary: the slots
after it and the lanes closed or opened at it. -/
def tableWork (c : Settings) (offer : Option (Nat × Nat)) (slots : List (Option Entry)) :
    List (Option Entry) × List Nat :=
  let lost := lostLanes c slots
  let slots := mapEntries (Entry.atBoundary c) slots
  let slots :=
    match offer with
    | some (code, figure) => admitOffer c.ownCode code figure slots
    | none => slots
  let (slots, opened) := arbitrate c slots
  (slots, lost ++ opened.toList)

/-! ### Presentation and frame records -/

/-- The entry with its record one frame older, unless a frame was accepted into it at this cycle end
(R105). -/
def Entry.ageRecord (accepted : List Nat) (e : Entry) : Entry :=
  if accepted.contains e.code then e
  else Entry.written { e with record := e.record.map fun r => { r with age := countUp 255 r.age } }

/-- Whether the entry's frame record was accepted at the boundary being processed (R68, R105). -/
def Entry.fresh (e : Entry) : Bool := e.record.any fun r => r.age = 0

/-- The frame records of age 0 with their senders' codes, entries of any state counting (R68, R135). -/
def surveyFrames (slots : List (Option Entry)) : List SurveyFrame :=
  (entriesOf slots).filterMap fun e =>
    match e.record with
    | some r => if r.age = 0 then some { sender := e.code, record := r } else none
    | none => none

/-- The TRACKED entries with a frame record of age 0, with their announced steps (R68, R113). -/
def presented (slots : List (Option Entry)) : List (Entry × Int) :=
  (entriesOf slots).filterMap fun e =>
    match e.record with
    | some r => if e.isTracked && r.age = 0 then some (e, r.step) else none
    | none => none

/-- The influence and step of the neighbours the anticipation counts (R119). -/
def planNeighbours (slots : List (Option Entry)) : List (Nat × Int) :=
  (presented slots).filterMap fun (e, step) => if e.gValid then some (e.g, step) else none

/-- Whether any neighbour presented announces a nonzero step (R113). -/
def neighbourSteps (slots : List (Option Entry)) : Bool :=
  (presented slots).any fun (_, step) => step ≠ 0

/-- The next dwell code (R52): the next number counting up, wrapping from 63 to 1, that is neither the
own code nor one of the codes passed over. -/
def nextDwell (ownCode : Nat) (passed : List Nat) : Nat → Nat → Nat
  | 0, code => code
  | fuel + 1, code =>
    let next := if 63 ≤ code then 1 else code + 1
    if next = ownCode || passed.contains next then nextDwell ownCode passed fuel next else next

end Sys2Proof.Machine
end

