-- ==== Sys2Proof/Machine/Replies.lean ====
section
/-! DEFINITION. The text of the service replies: numbers, names and lines (R175 to R177, R182). -/

namespace Sys2Proof.Machine

/-! ### Numbers and names -/

/-- A number in decimal with no leading zeros (R182). -/
def numberText (n : Nat) : Text := Nat.toDigits 10 n

/-- A signed field: with its sign, 0 as +0 (R182). -/
def signedText (x : Int) : Text := (if x < 0 then '-' else '+') :: numberText x.natAbs

/-- An unsigned field held as an integer. -/
def plainText (x : Int) : Text := if x < 0 then signedText x else numberText x.natAbs

/-- A field that may be absent: a single hyphen when it is (R182). -/
def optionText {α : Type} (f : α → Text) : Option α → Text
  | some x => f x
  | none => ['-']

/-- One bit as 0 or 1. -/
def bitText (b : Bool) : Text := if b then ['1'] else ['0']

/-- Fields separated by single spaces (R182). -/
def fieldsText (fields : List Text) : Text := [' '].intercalate fields

/-- Condition names (R151, R182). -/
def conditionName : Condition → Text
  | .starting => "STARTING".toList
  | .acquiring => "ACQUIRING".toList
  | .regulating => "REGULATING".toList
  | .holding => "HOLDING".toList
  | .survey => "SURVEY".toList
  | .dark => "DARK".toList
  | .brownout => "BROWNOUT".toList
  | .fault => "FAULT".toList

/-- The condition field of the status line, with the fault cause in FAULT (R175, R182). -/
def conditionText (u : Supervisor) : Text :=
  match u.condition, u.faultCause with
  | .fault, some .config => "FAULT/CONFIG".toList
  | .fault, some .reversed => "FAULT/REVERSED".toList
  | condition, _ => conditionName condition

/-- Lock states (R175). -/
def lockName : LockState → Text
  | .unlocked => "UNLOCKED".toList
  | .locked => "LOCKED".toList
  | .solitary => "SOLITARY".toList

/-- Survey kinds (R134). -/
def kindName : SurveyKind → Text
  | .none => "NONE".toList
  | .interrupt => "INTERRUPT".toList
  | .depolarize => "DEPOLARIZE".toList
  | .freeze => "FREEZE".toList

/-- Survey phases (R134). -/
def phaseName : SurveyPhase → Text
  | .over => "NONE".toList
  | .pending => "PENDING".toList
  | .running => "RUNNING".toList

/-- Entry states (R55). -/
def entryStateName : EntryState → Text
  | .candidate => "CANDIDATE".toList
  | .tracked => "TRACKED".toList
  | .parked => "PARKED".toList

/-- Conditions of a frame record (R104). -/
def frameConditionName : FrameCondition → Text
  | .acquiring => "ACQUIRING".toList
  | .regulating => "REGULATING".toList
  | .holding => "HOLDING".toList
  | .survey => "SURVEY".toList

/-- The latched alarms, in the order of R151 (log 18). -/
def alarmNames (a : Alarms) : List Text :=
  [(a.floor, "FLOOR"), (a.ilimit, "ILIMIT"), (a.vlimit, "VLIMIT"), (a.noself, "NOSELF"),
    (a.stage, "STAGE"), (a.supply, "SUPPLY"), (a.table, "TABLE"), (a.capdrop, "CAPDROP")].filterMap
    fun (latched, name) => if latched then some name.toList else none

/-- The alarms field: names joined by commas, or NONE (R182). -/
def alarmsText (a : Alarms) : Text :=
  if a.any then [','].intercalate (alarmNames a) else "NONE".toList

/-! ### Lines -/

/-- The survey fields of the status line (R182). -/
def surveyTexts (v : Survey) : List Text :=
  if v.valid then
    ['G' :: numberText v.generation, kindName v.kind, phaseName v.phase, numberText v.count]
  else [['N']]

/-- The status line (R175, R182). Its fields are of one side of a cycle end where the sender takes it so
(log 29). -/
def statusLine (s : State) : Text :=
  fieldsText
    ([['S'], conditionText s.supervisor, lockName s.agreement.lock, numberText s.timer.position,
      optionText plainText s.regulation.setCurrent, signedText s.regulation.staged,
      optionText signedText s.regulation.frameMean,
      if s.correlator.gSelfValid then numberText s.correlator.gSelf else ['-']] ++
    surveyTexts s.survey ++
    [alarmsText s.supervisor.alarms, numberText s.regulation.noMeasure,
      numberText s.table.errors, numberText s.capture.records.length, numberText s.capture.drops,
      optionText numberText s.front.lastMeanS])

/-- The nine fields of a frame record (R182). -/
def recordText (r : FrameRecord) : Text :=
  fieldsText
    [frameConditionName r.condition, signedText r.step, numberText r.generation, kindName r.kind,
      phaseName r.phase, numberText r.count, bitText r.limit, bitText r.health, numberText r.age]

/-- The line of an entry in a TABLE reply (R176, R182). -/
def entryLine (slot : Nat) (e : Entry) : Text :=
  fieldsText
    [['T'], numberText slot, numberText e.code, entryStateName e.state,
      optionText numberText e.lane,
      if e.gValid then numberText e.g else numberText e.g ++ ['D'],
      numberText e.age, numberText e.low, numberText e.discarded,
      optionText (fun p => numberText p.offset ++ '@' :: numberText p.count) e.offset,
      optionText recordText e.record]

/-- The closing line of a TABLE reply (R176, R182). -/
def closingLine (sent errors : Nat) : Text :=
  fieldsText [['E'], numberText sent, numberText errors]

/-- The line of a capture record (R177, R182). -/
def captureLine (r : CaptureRecord) : Text :=
  fieldsText
    [['C'], numberText r.sequence, numberText r.generation, numberText r.position,
      optionText signedText r.instantOff, signedText r.onPotential, numberText r.meanCurrent,
      [if r.disturbed then 'D' else 'U', if r.overrange then 'O' else 'N']]

/-- The short replies (R182). -/
def okLine : Text := "OK".toList
/-- See `okLine`. -/
def errLine : Text := "?ERR".toList
/-- See `okLine`. -/
def stateLine : Text := "?STATE".toList
/-- See `okLine`. -/
def longLine : Text := "?LONG".toList

/-- A reply's lines as the transmit line carries them, each ended by a carriage return and a line
feed (R182). -/
def wireText (lines : List Text) : Text :=
  lines.flatMap fun line => line ++ ['\r', '\n']

end Sys2Proof.Machine
end

