-- ==== Sys2Proof/Machine/Ops.lean ====
section
/-! DEFINITION. The operations over the whole state that the commands share: named updates, resets, the
passing of time, the demand and the pins, changes of condition, the warn test, parity removal, and the
start of a cycle. -/

namespace Sys2Proof.Machine

/-! ### Named updates -/

/-- The state with one part replaced. -/
def State.setTimer (x : Timer) (s : State) : State := { s with timer := x }
/-- See `State.setTimer`. -/
def State.setKeying (x : Keying) (s : State) : State := { s with keying := x }
/-- See `State.setTimer`. -/
def State.setFront (x : FrontEnd) (s : State) : State := { s with front := x }
/-- See `State.setTimer`. -/
def State.setCorrelator (x : Correlator) (s : State) : State := { s with correlator := x }
/-- See `State.setTimer`. -/
def State.setTable (x : Table) (s : State) : State := { s with table := x }
/-- See `State.setTimer`. -/
def State.setFrames (x : FrameUnit) (s : State) : State := { s with frames := x }
/-- See `State.setTimer`. -/
def State.setAgreement (x : Agreement) (s : State) : State := { s with agreement := x }
/-- See `State.setTimer`. -/
def State.setRegulation (x : Regulation) (s : State) : State := { s with regulation := x }
/-- See `State.setTimer`. -/
def State.setSurvey (x : Survey) (s : State) : State := { s with survey := x }
/-- See `State.setTimer`. -/
def State.setCapture (x : CaptureStore) (s : State) : State := { s with capture := x }
/-- See `State.setTimer`. -/
def State.setSupervisor (x : Supervisor) (s : State) : State := { s with supervisor := x }
/-- See `State.setTimer`. -/
def State.setService (x : Service) (s : State) : State := { s with service := x }
/-- See `State.setTimer`. -/
def State.setPins (x : Pins) (s : State) : State := { s with pins := x }
/-- See `State.setTimer`. -/
def State.setEdge (x : Option CycleEdge) (s : State) : State := { s with edge := x }

/-- See `State.setTimer`. -/
def State.setWire (x : Text) (s : State) : State := { s with wire := x }

/-- The alarms with one more latched (R167). -/
def State.latch (f : Alarms → Alarms) (s : State) : State :=
  s.setSupervisor { s.supervisor with alarms := f s.supervisor.alarms }

/-! ### Resets -/

/-- What the transmit line has carried once a reset has cut off a reply after the characters sent, its line
without its ending (R182); with no reply in progress the last one stands (log 17). -/
def cutOff (sent : Nat) (s : State) : Text :=
  match s.service.reply with
  | some r => (wireText r.lines).take sent
  | none => s.wire

/-- Every block at its reset values and the reset holding the device (R169); the MAINS level stands
as the line reads (R151), and the queue and the model's counter are not the device's. A reply in progress
is cut off after the characters sent (R178, R182). -/
def fullReset (sent : Nat) (s : State) : State :=
  { State.reset with
    wire := cutOff sent s
    supervisor := { State.reset.supervisor with mains := s.supervisor.mains }
    freeCount := s.freeCount
    pending := s.pending }

/-- The device as a reset leaves it when it ends: a cycle starts at position 0 in STARTING and the
configuration load begins with its settling wait (R18, R154, R169). -/
def resetEnded (s : State) : State :=
  { fullReset 0 s with held := false, load := .waiting }

/-- A restart keeps the capture store, its next sequence number and its drop count (R147, R169). -/
def restarted (s : State) : State :=
  (resetEnded s).setCapture s.capture

/-! ### Demand and pins -/

/-- The local millisecond in progress (R4). -/
def State.ms (s : State) : Nat := s.timer.phase / 20

/-- The demand in mA (R12, R13). -/
def demandNow (s : State) : Int :=
  match s.config, s.regulation.setCurrent with
  | some c, some i =>
    if !s.supervisor.condition.output || s.timer.window = .opened then 0
    else if s.ms < 960 then
      10 * i + 10 * c.depth *
        chip c.ownCode (chipIndex c.order s.timer.position (s.ms / 15)) *
        (if s.keying.dataBit then -1 else 1)
    else 10 * i
  | _, _ => 0

/-- The transmit line (R170, R172, R182): high but while a reply is in progress, whose lines it carries. -/
def txdNow (s : State) : TxLine :=
  match s.service.reply with
  | some r => .sending (wireText r.lines)
  | none => .high

/-- The output pins as the state gives them: the demand, OFFMARK (R7), ALM (R167), FLT (R166) and the
transmit line (R170); while a reset holds the device all low but the transmit line, which is held high. -/
def pinsNow (s : State) : Pins :=
  if s.held then { demand := 0, offmark := false, alm := false, flt := false, txd := .high }
  else
    { demand := demandNow s
      offmark := s.timer.window = .opened
      alm := s.supervisor.alarms.any
      flt := s.supervisor.condition = .fault
      txd := txdNow s }

/-- The pins driven as the state gives them. -/
def drive (s : State) : State := s.setPins (pinsNow s)

/-- The DMD pin in mV, 1 mV for each 10 mA (11, Pins). -/
def dmdMillivolts (s : State) : Int := s.pins.demand / 10

/-! ### The passing of time -/

/-- Time runs on to a later phase count, with no effect when that is not later. A millisecond of the
cycle that ends on the way without a SAMPLE gave no sample of P, I and V, so sampling is broken
(R28, log 3), and its demand is not counted. -/
def runTo (t : Nat) (s : State) : State :=
  if t ≤ s.timer.phase then s
  else
    let crossed := decide (s.timer.phase / 20 < t / 20)
    let skipped := decide (s.timer.phase / 20 < min (t / 20) 1280)
    { s with
      edge := none
      timer := { s.timer with phase := t }
      front :=
        { s.front with
          unbroken := s.front.unbroken && !skipped
          whole := if crossed then s.supervisor.condition.samples else s.front.whole }
      keying :=
        { s.keying with
          segments :=
            if crossed then (if t % 20 = 0 then [] else [(s.pins.demand, t % 20)])
            else s.keying.segments ++ [(s.pins.demand, t - s.timer.phase)] } }

/-- Time runs on to a timer unit of the millisecond in progress, not past the cycle's length. -/
def runToUnit (unit : Nat) (s : State) : State :=
  runTo (min s.timer.length (20 * s.ms + min unit 19)) s

/-- How many timer units a demand value lasted among segments. -/
def unitsAt (value : Int) (segments : List (Int × Nat)) : Nat :=
  ((segments.filter fun g => g.1 = value).map Prod.snd).sum

/-- The demand a millisecond counts with (R15): that in force for the greater part of it, and the
later of two that share it equally. Of three or more it is the one in force longest (log 11). -/
def demandOfMs (segments : List (Int × Nat)) : Int :=
  (segments.foldl
    (fun (best : Int × Nat) g =>
      if best.2 ≤ unitsAt g.1 segments then (g.1, unitsAt g.1 segments) else best)
    (0, 0)).1

/-! ### Changes of condition -/

/-- The keyed-throughout mark after a change to the condition `x` (R14). At the start of a cycle it is
set by a condition with output; later in the keying span such a condition keeps it and any other
clears it; after the span it stands. So a DARK entered and left at the very instant a cycle starts leaves
it set, and one entered and left at a later instant of the span clears it (log 31). -/
def keyedAfter (x : Condition) (s : State) : Bool :=
  if s.timer.phase = 0 && s.edge.isSome then x.output
  else if s.timer.phase < 19200 then s.keying.keyed && x.output
  else s.keying.keyed

/-- The condition becomes `x` at this event, and every block applies it from this moment (R153): entry
to ACQUIRING returns the solitary count to 0, a passage through it within one event being none (log 37); the keyed-throughout mark follows (R14); without
output an open window closes, an unfinished sampling interval with it (R6, R25); sampling of P, I
and V stops (R32) or starts at the next whole millisecond (R28), a broken cycle staying broken even
where it starts at this instant (log 27); DARK is noted for the self lane (R46), a DARK left
at the instant a cycle starts counting as a moment of that cycle (log 31). -/
def setCondition (x : Condition) (s : State) : State :=
  if x = s.supervisor.condition then s
  else
    let cut := decide (s.timer.window = .opened) && !x.output
    { s with
      supervisor :=
        { s.supervisor with
          condition := x
          solitary := if x = .acquiring then 0 else s.supervisor.solitary }
      keying := { s.keying with keyed := keyedAfter x s }
      timer := { s.timer with window := if cut then .cutShort else s.timer.window }
      front :=
        { s.front with
          unbroken := s.front.unbroken && x.samples
          whole :=
            x.samples &&
              (if s.supervisor.condition.samples then s.front.whole
               else s.timer.phase % 20 = 0)
          offSum := if cut then 0 else s.front.offSum
          offCount := if cut then 0 else s.front.offCount }
      correlator :=
        { s.correlator with darkSeen := s.correlator.darkSeen || decide (x = .dark) } }

/-- The condition derived again from the facts (R152, R153). -/
def derive (s : State) : State :=
  setCondition (conditionOf s.config.isSome s.supervisor) s

/-! ### The warn test -/

/-- The warn test (R163), which latches SUPPLY when the flag becomes set. -/
def warnTest (c : Settings) (meanS : Nat) (u : Supervisor) : Supervisor :=
  let warn := warnAfter c u.warn meanS
  { u with
    warn := warn
    alarms := { u.alarms with supply := u.alarms.supply || (warn && !u.warn) } }

/-- The warn test made where a mean S for it is at hand (R163). -/
def takeWarn (meanS : Option Nat) (s : State) : State :=
  match s.config, meanS with
  | some c, some m => s.setSupervisor (warnTest c m s.supervisor)
  | _, _ => s

/-! ### Parity removal -/

/-- An upset in the stored contents of the entries in some slots: their check no longer agrees (R70,
log 6). -/
def upsetEntries (struck : List Nat) (s : State) : State :=
  s.setTable
    { s.table with
      slots := s.table.slots.zipIdx.map fun (o, k) =>
        o.map fun e => if struck.contains k then { e with parityGood := false } else e }

/-- The entries, with their slots, that fail their check among those a read covers (R70). -/
def failingEntries (read : Nat → Entry → Bool) (slots : List (Option Entry)) : List (Entry × Nat) :=
  slots.zipIdx.filterMap fun (o, k) =>
    o.bind fun e => if !e.parityGood && read k e then some (e, k) else none

/-- A read of some of the entries: every one whose check fails is removed, its lane is free and
its watch dropped, the table-error count counts it, and the TABLE alarm is latched (R71, R72, R102). -/
def checkParity (read : Nat → Entry → Bool) (s : State) : State :=
  match failingEntries read s.table.slots with
  | [] => s
  | failing =>
    { s with
      table :=
        { slots := s.table.slots.zipIdx.map fun (o, k) =>
            o.bind fun e => if !e.parityGood && read k e then none else some e
          errors := min 255 (s.table.errors + failing.length) }
      correlator :=
        { s.correlator with
          lanes := s.correlator.lanes.map fun lane =>
            lane.bind fun code => if failing.any fun f => f.1.code = code then none else some code }
      frames :=
        { s.frames with
          watches := dropWatches (failing.filterMap fun f => f.1.lane) s.frames.watches }
      supervisor :=
        { s.supervisor with alarms := { s.supervisor.alarms with table := true } } }

/-- A read of every entry, as the table's boundary work and the search lane at a cycle start make it
(R70). -/
def readAll (s : State) : State := checkParity (fun _ _ => true) s

/-! ### The start of a cycle -/

/-- The table as the cycle that starts here finds it: the search lane's codes (R52) and the lanes'
bindings (R34, R68). -/
def bindLanes (s : State) : State :=
  s.setCorrelator
    { s.correlator with
      lanes := boundCodes s.table.slots
      startCodes := codesOf s.table.slots }

/-- The data bit of a cycle at a frame position: that place of the own frame, or 0 where the frame
unit presents none (R10, R96). -/
def presentedBit (frame : Option (List Bool)) (position : Nat) : Bool :=
  (frame.map fun places => places.getD position false).getD false

/-- The data bit taken for the cycle that starts here (R10). -/
def takeBit (s : State) : State :=
  s.setKeying
    { s.keying with dataBit := presentedBit s.frames.ownFrame s.timer.position }

/-! ### Service replies -/

/-- A reply whose lines are all written begins (R172). -/
def beginReply (lines : List Text) (s : State) : State :=
  s.setService { s.service with reply := some { lines := lines, cursor := none } }

/-- Whether the service line takes characters (R170, R178): no reset holds the device, no reply is in
progress and no restart is pending. -/
def serviceReady (s : State) : Bool :=
  !s.held && s.service.reply.isNone && !s.service.pendingRestart

end Sys2Proof.Machine
end

