-- ==== Sys2Proof/Machine/Resets.lean ====
section
/-! DEFINITION. The resets and the configuration load: FULL_RESET, RESET_END, CONFIG_LOAD_START,
CONFIG_LOAD_END, LOAD_NACK, LOAD_BUS_CONFLICT, LOAD_TIMEOUT and DEVICE_RESTART. -/

namespace Sys2Proof.Machine

/-- FULL_RESET (R169): the cycle in progress ends without a cycle end, every block takes its reset
values, and the capture store is emptied. `sent` characters of a reply in progress had been sent whole
(R182). -/
def execFullReset (s : State) (sent : Nat := 0) : Host.Outcome State Fault Refusal :=
  .next (fullReset sent s)

/-- RESET_END (R169), for a device a reset holds. -/
def execResetEnd (s : State) : Host.Outcome State Fault Refusal :=
  .next (if s.held then resetEnded s else s)

/-- CONFIG_LOAD_START (R154): the settling wait is over and the read begins; how far its transfer gets is
known when it ends (log 19). -/
def execConfigLoadStart (s : State) : Host.Outcome State Fault Refusal :=
  .next (if s.load = .waiting then { s with load := .reading, lines := .transfer } else s)

/-- A load that ends in FAULT with cause CONFIG, the lines left as `lines` after the actions `bus` (R155,
R156, R166). A cause already present stands (R166). -/
def loadFailed (lines : I2cLines) (bus : List BusAction) (s : State) : State :=
  drive (derive
    ({ s with load := .ended, lines := lines, bus := bus }.setSupervisor
      { s.supervisor with faultCause := s.supervisor.faultCause.or (some .config) }))

/-- The blocks begin their work with the configuration `c` (R155): the set current I_start (R133), the
first dwell on the own code plus one (R50, R54), and the first own frame (R93), with condition
ACQUIRING, a step of 0, a record not valid and every cause inactive. -/
def loadAccepted (c : Settings) (s : State) : State :=
  drive (derive
    { s with
      load := .ended
      lines := .stopped
      bus := imageTransfer
      config := some c
      regulation := { State.reset.regulation with setCurrent := some c.iStart }
      correlator :=
        { State.reset.correlator with
          dwellCode := if 63 ≤ c.ownCode then 1 else c.ownCode + 1
          darkSeen := s.correlator.darkSeen }
      survey := State.reset.survey
      frames :=
        { s.frames with ownFrame := some (buildFrame .acquiring 0 State.reset.survey false false) }
      supervisor :=
        { s.supervisor with warn := false, brownout := false, lowRun := 0, highRun := 0 } })

/-- CONFIG_LOAD_END (R155): the transfer is closed by a stop condition, and the image is accepted or
refused. -/
def execConfigLoadEnd (image : List Byte) (unit : Nat) (s : State) :
    Host.Outcome State Fault Refusal :=
  .next
    (if s.load = .reading then
      let s := runToUnit unit s
      if imageAccepted image then loadAccepted (settingsOf image) s else loadFailed .stopped imageTransfer s
    else s)

/-- LOAD_NACK (R156): a stop condition after the byte left unacknowledged, and the load ends in FAULT. -/
def execLoadNack (s : State) (byte : Nat := 1) : Host.Outcome State Fault Refusal :=
  .next (if s.load = .reading then loadFailed .stopped (nackedTransfer byte) s else s)

/-- LOAD_BUS_CONFLICT (R156): both lines are released, and the load ends in FAULT. -/
def execLoadBusConflict (s : State) (sent : Nat := 0) : Host.Outcome State Fault Refusal :=
  .next (if s.load = .reading then loadFailed .released (imageTransfer.take sent) s else s)

/-- LOAD_TIMEOUT (R156): the load, whether still waiting or in transfer, ends in FAULT with both lines
released and the bytes read so far discarded. -/
def execLoadTimeout (s : State) (sent : Nat := 0) : Host.Outcome State Fault Refusal :=
  .next
    (if s.load = .waiting then loadFailed .released [] s
     else if s.load = .reading then loadFailed .released (imageTransfer.take sent) s
     else s)

/-- DEVICE_RESTART (R178, R169), once the reply of RESTART has drained: every block resets except the
capture store, and the configuration load begins. The reply's end is a command of its own (log 30). -/
def execDeviceRestart (s : State) : Host.Outcome State Fault Refusal :=
  .next
    (if s.service.pendingRestart && s.service.reply.isNone && !s.held then restarted s else s)

end Sys2Proof.Machine
end

