-- ==== Sys2Proof/Machine/Measure.lean ====
section
/-! DEFINITION. The measurement within a cycle: SAMPLE, KEYING_SPAN_END, OFF_WINDOW_DECISION and
OFF_WINDOW_END. -/

namespace Sys2Proof.Machine

/-! ### One millisecond -/

/-- The chip values of one P sample (R22): each value is formed when its last sample completes. -/
def chipValues (m : Nat) (p : Int) (f : FrontEnd) : FrontEnd :=
  if 960 ≤ m then f
  else
    let seen := (if m % 15 = 0 then [] else f.chipSamples) ++ [p]
    { f with
      chipSamples := seen
      early := if m % 15 = 8 then f.early ++ [roundMean seen] else f.early
      prompt := if m % 15 = 11 then f.prompt ++ [roundMean (seen.drop 3)] else f.prompt
      late := if m % 15 = 14 then f.late ++ [roundMean (seen.drop 6)] else f.late }

/-- The instant-off interval (R24): the eight samples from ms 970 + D on, while the window is open; the
mean is tagged with the condition in force at the interval's end. -/
def instantOffValues (c : Settings) (window : WindowState) (tag : Condition) (m : Nat) (p : Int)
    (f : FrontEnd) : FrontEnd :=
  let start := 970 + c.sampleDelay
  if window = .opened && start ≤ m && m ≤ start + 7 then
    if m = start + 7 then
      { f with
        offSum := 0
        offCount := 0
        instantOff :=
          if f.offCount = 7 then some { value := roundDiv (f.offSum + p) 8, tag := tag } else none }
    else { f with offSum := f.offSum + p, offCount := f.offCount + 1 }
  else f

/-- The sums of I and V over the keying span (R26). -/
def currentVoltageSums (m : Nat) (i v : Nat) (f : FrontEnd) : FrontEnd :=
  if 960 ≤ m then f
  else { f with currentSum := f.currentSum + i, voltageSum := f.voltageSum + v }

/-- The front end after the samples of local ms `m` (R19 to R24): S in every condition; P, I and V where
the whole millisecond lay in a condition that samples them, a P sample at an end of its range
marking the cycle overrange (R21), and the values of the cycle formed only while its sampling is
unbroken (R28). -/
def frontSample (c : Option Settings) (window : WindowState) (tag : Condition) (m : Nat)
    (p : Int) (i v sup : Nat) (f : FrontEnd) : FrontEnd :=
  let f := { f with supplySum := f.supplySum + sup, supplyCount := f.supplyCount + 1 }
  match f.whole, c with
  | true, some c =>
    let f := { f with overrange := f.overrange || p = -40000 || p = 10000 }
    if f.unbroken then
      instantOffValues c window tag m p (currentVoltageSums m i v (chipValues m p f))
    else f
  | _, _ => f

/-- The demand of the millisecond that ends, counted into the keying span's (R15). -/
def countDemand (m : Nat) (phase : Nat) (demand : Int) (k : Keying) : Keying :=
  if 960 ≤ m then { k with segments := [] }
  else
    { k with
      demandSum := k.demandSum + demandOfMs (k.segments ++ [(demand, 20 - phase % 20)])
      demandMs := k.demandMs + 1
      segments := [] }

/-- The end of local ms `m` with its samples (R19, R20): a millisecond past ms 1279 gives no sample. -/
def endMs (p i v sup : Int) (s : State) : State :=
  let m := s.ms
  let listening := s.supervisor.condition.samples
  let front :=
    if 1280 ≤ m then s.front
    else
      frontSample s.config s.timer.window s.supervisor.condition m (potentialSample p)
        (currentSample i) (voltageSample v) (supplySample sup) s.front
  drive
    { s with
      edge := none
      timer := { s.timer with phase := 20 * (m + 1) }
      keying := countDemand m s.timer.phase s.pins.demand s.keying
      front := { front with whole := listening }
      supervisor :=
        if s.config.isSome && m < 1280 then supplyRuns (supplySample sup) s.supervisor
        else s.supervisor }

/-- SAMPLE (R19): the end of the millisecond in progress, while no reset holds the device (R33). A
millisecond the cycle end cuts short is not complete and gives no sample (R20). -/
def execSample (p i v sup : Int) (s : State) : Host.Outcome State Fault Refusal :=
  .next (if !s.held && 20 * (s.ms + 1) ≤ s.timer.length then endMs p i v sup s else s)

/-! ### The end of the keying span -/

/-- The mean demand of the cycle (R15), when every millisecond of the span was counted. -/
def formDemand (k : Keying) : Keying :=
  { k with meanDemand := if k.demandMs = 960 then some (roundDiv k.demandSum 960) else none }

/-- What the front end and the correlator form at the end of ms 959 of a cycle sampled without a break
from ms 0: the ON potential (R23), the mean current and voltage (R26), XP_self (R37) and the
residual result (R38). -/
def formSpan (c : Settings) (s : State) : State :=
  let xp := corrSum c.order s.timer.position c.ownCode s.front.prompt
  { s with
    front :=
      { s.front with
        onPotential := some (roundMean s.front.prompt)
        meanCurrent := some (roundDiv s.front.currentSum 960).toNat
        meanVoltage := some (roundDiv s.front.voltageSum 960).toNat }
    correlator :=
      { s.correlator with
        xpSelf := some xp
        residual := some (residualTest c s.timer.position xp s.front.prompt) } }

/-- The end of ms 959. -/
def endSpan (s : State) : State :=
  let s := s.setKeying (formDemand s.keying)
  match s.front.unbroken, s.config with
  | true, some c => formSpan c s
  | _, _ => s

/-- KEYING_SPAN_END (R23), where the end of ms 959 has not passed. -/
def execKeyingSpanEnd (s : State) : Host.Outcome State Fault Refusal :=
  .next (if !s.held && s.timer.phase ≤ 19200 then drive (endSpan (runTo 19200 s)) else s)

/-! ### The OFF window -/

/-- Whether an OFF window opens at ms 970 (R5). -/
def windowOpens (s : State) : Bool :=
  s.supervisor.condition.output &&
    (s.survey.runs .interrupt || s.timer.position % 8 = 0)

/-- OFF_WINDOW_DECISION (R5), where ms 970 has not passed and the window is not yet decided. -/
def execOffWindowDecision (s : State) : Host.Outcome State Fault Refusal :=
  .next
    (if !s.held && s.timer.phase ≤ 19400 && s.timer.window = .undecided then
      let s := runTo 19400 s
      drive (s.setTimer
        { s.timer with window := if windowOpens s then .opened else .absent })
    else s)

/-- The capture contents presented at the end of a full window (R30), when P, I and V have been sampled
without a break from ms 0: a record but for its sequence number. -/
def captureContents (s : State) : Option CaptureRecord :=
  match s.front.unbroken, s.front.onPotential, s.front.meanCurrent, s.correlator.residual with
  | true, some on, some current, some residual =>
    some
      { sequence := s.capture.nextSequence
        generation := s.survey.generation
        position := s.timer.position
        instantOff :=
          if s.front.overrange || residual then none else s.front.instantOff.map InstantOff.value
        onPotential := on
        meanCurrent := current
        disturbed := residual || s.front.overrange
        overrange := s.front.overrange }
  | _, _, _, _ => none

/-- A capture taken by the store (R148): appended, or dropped when the store is full, which latches
CAPDROP; the sequence number is used up either way. -/
def takeCapture (r : CaptureRecord) (s : State) : State :=
  let store := { s.capture with nextSequence := (s.capture.nextSequence + 1) % 65536 }
  if s.capture.records.length < captureLimit then
    s.setCapture { store with records := store.records ++ [r] }
  else
    (s.setCapture { store with drops := countUp 65535 store.drops }).latch
      fun a => { a with capdrop := true }

/-- The capture at a window end: only while an INTERRUPT survey is RUNNING (R148). -/
def captureAtWindowEnd (s : State) : State :=
  match captureContents s with
  | some r => if s.survey.runs .interrupt then takeCapture r s else s
  | none => s

/-- The phase count at which an open window ends (R6): the end of ms 970 + W - 1. -/
def windowEnd (c : Settings) : Nat := 20 * (970 + c.windowLength)

/-- OFF_WINDOW_END (R6), where a window is open and its end has not passed. -/
def execOffWindowEnd (s : State) : Host.Outcome State Fault Refusal :=
  .next
    (match s.config with
    | some c =>
      if !s.held && s.timer.window = .opened && s.timer.phase ≤ windowEnd c then
        let s := runTo (windowEnd c) s
        drive (captureAtWindowEnd (s.setTimer { s.timer with window := .full }))
      else s
    | none => s)

end Sys2Proof.Machine
end

