-- ==== Sys2Proof/Machine/Cycle.lean ====
section
/-! DEFINITION. CYCLE_END: what the blocks hand over at the end of a cycle and what each makes of it
(R1 to R3, R14 to R17, R27 to R29, R34 to R50, R59, R75 to R87, R97 to R103, R114, R159, R163). -/

namespace Sys2Proof.Machine

/-! ### The hand-over -/

/-- What the front end and the correlator hand over for the cycle that ends: its frame position;
whether the set is complete (R28); the disturbed mark (R39); the relock-span mark (R45, R81); whether
the station decodes frames; the tracking lanes' results (R43); the signed self figure (R46); the search lane's figure (R50); the
instant-off sample and the means (R29). The mean S is handed to the supervisor on its own (R27, R29). -/
structure CycleReport where
  position : Nat
  complete : Bool
  disturbed : Bool
  marked : Bool
  decodes : Bool
  results : List LaneResult
  self : Option Int
  search : Option Nat
  instantOff : Option InstantOff
  meanCurrent : Option Nat
  meanVoltage : Option Nat
  deriving DecidableEq, Repr

/-- Whether the cycle that ends is complete (R28): sampled without a break from ms 0, with the results
of its keying span formed (log 3). -/
def cycleComplete (s : State) : Bool :=
  s.front.unbroken && s.correlator.xpSelf.isSome && s.correlator.residual.isSome

/-- The disturbed mark (R39): of a complete cycle only. -/
def cycleDisturbed (s : State) : Bool :=
  cycleComplete s && (s.correlator.residual.getD false || s.front.overrange)

/-- The relock-span mark (R81). -/
def cycleMarked (s : State) : Bool :=
  cycleComplete s && decide (0 < s.agreement.relock)

/-- Whether the station decodes frames at this cycle end: not in STARTING, BROWNOUT or FAULT (R86, R146),
nor before the relock span that follows a BROWNOUT has run (R82, log 14). -/
def stationDecodes (s : State) : Bool :=
  s.supervisor.condition.samples && s.agreement.relock = 0

/-- Whether a cycle's figures may be used (R39, R43, R45): complete, undisturbed, outside the relock
span. -/
def cycleUsable (s : State) : Bool :=
  cycleComplete s && !cycleDisturbed s && !cycleMarked s

/-- The tracking lanes' results (R43): of the lanes open since the cycle start. -/
def laneResults (c : Settings) (s : State) : List LaneResult :=
  (s.correlator.lanes.filterMap id).map
    (laneResult c s.timer.position (cycleUsable s) s.front.early s.front.prompt s.front.late)

/-- The signed self figure (R46): of a usable cycle keyed throughout with no moment of DARK. -/
def selfResult (c : Settings) (s : State) : Option Int :=
  if cycleUsable s && s.keying.keyed && !s.correlator.darkSeen then
    s.correlator.xpSelf.map fun xp => selfFigure c.depth xp s.keying.dataBit
  else none

/-- The search lane's figure of the cycle on its dwell code (R50). -/
def searchResult (c : Settings) (s : State) : Option Nat :=
  if cycleUsable s then
    some (influence c.depth
      (corrSum c.order s.timer.position s.correlator.dwellCode s.front.prompt))
  else none

/-- The mean S of the cycle (R27). -/
def supplyMean (f : FrontEnd) : Option Nat :=
  if f.supplyCount = 0 then none else some (roundDiv f.supplySum f.supplyCount).toNat

/-- The hand-over of a cycle end. -/
def cycleReport (c : Settings) (s : State) : CycleReport where
  position := s.timer.position
  complete := cycleComplete s
  disturbed := cycleDisturbed s
  marked := cycleMarked s
  decodes := stationDecodes s
  results := laneResults c s
  self := selfResult c s
  search := searchResult c s
  instantOff := if cycleComplete s then s.front.instantOff else none
  meanCurrent := if cycleComplete s then s.front.meanCurrent else none
  meanVoltage := if cycleComplete s then s.front.meanVoltage else none

/-! ### Output drive, correlator and regulation -/

/-- The STAGE comparison and the voltage-limit flag (R16, R17). -/
def driveComparisons (c : Settings) (r : CycleReport) (k : Keying) : Keying :=
  let k :=
    match r.meanCurrent, k.meanDemand with
    | some current, some demand => stageStep (stageBad current demand) k
    | _, _ => k
  match r.meanVoltage with
  | some v => { k with voltageLimit := c.vMax ≤ v }
  | none => k

/-- The self lane's and the search lane's sums (R47, R50), and the end of the search lane's wait at the
end of the last cycle of the relock span (R53, R81). -/
def gatherFigures (r : CycleReport) (relock : Nat) (k : Correlator) : Correlator :=
  let k :=
    match r.self with
    | some x => { k with selfSum := k.selfSum + x, selfCount := k.selfCount + 1 }
    | none => k
  let k :=
    match r.search with
    | some g => { k with dwellSum := k.dwellSum + g, dwellCount := k.dwellCount + 1 }
    | none => k
  { k with waiting := k.waiting && !(r.marked && relock = 1) }

/-! ### Phase agreement -/

/-- The contributions to the weighted error (R75): those of codes the table holds, an entry failing
its check at this cycle end counting unless it was removed first (R44, log 7). -/
def contributions (removedFirst : Bool) (slots : List (Option Entry)) (results : List LaneResult) :
    List (Nat × Int) :=
  results.filterMap fun r =>
    if (entriesOf slots).any fun e => e.code = r.code && (e.parityGood || !removedFirst) then
      r.timing
    else none

/-- The weighted error (R75). -/
def weightedError (contributors : List (Nat × Int)) : Option Int :=
  if contributors.isEmpty then none
  else
    some (roundDiv (contributors.map fun x => (x.1 : Int) * x.2).sum
      (contributors.map Prod.fst).sum)

/-- The adjustment phase agreement hands the timer (R76), or 0 where it hands over none, and the
timer's limit (R2). -/
def adjustmentOf (e : Option Int) : Int :=
  match e with
  | some e => clampInt (-40) 40 (clampInt (-40) 40 (roundDiv e 2))
  | none => 0

/-- The weighted error of the cycle end. -/
def cycleError (r : CycleReport) (s : State) : Option Int :=
  weightedError
    (contributions (Config.removalBeforeWeighing s.freeCount) s.table.slots r.results)

/-- Phase agreement after the cycle end (R77, R78, R80, R81), and whether the lock was lost; in FAULT
the lock state and counts stand (R80, log 13). -/
def agreeAtCycleEnd (r : CycleReport) (e : Option Int) (condition : Condition) (a : Agreement) :
    Agreement × Bool :=
  let (a, lost) := if condition = .fault then (a, false) else lockStep e a
  ({ a with relock := if r.marked then a.relock - 1 else a.relock }, lost)

/-! ### Frame unit and table -/

/-- The condition the realignment decision reads (R86): the station's at this cycle end, before or
after a lock loss that falls there (log 8). -/
def decidingCondition (lost : Bool) (s : State) : Condition :=
  if lost && Config.lockLossBeforeRealignment s.freeCount then
    conditionOf s.config.isSome { s.supervisor with working := false }
  else s.supervisor.condition

/-- What the cycle end makes of each slot's entry: the result of its lane, where it handed one, and a
pending offset grown stale. -/
def slotOutcome (c : Settings) (own : Condition) (r : CycleReport) (now : Nat)
    (watches : List (Option Nat)) (e : Entry) : EntryOutcome :=
  let o :=
    match r.results.find? fun x => x.code = e.code with
    | some x =>
      entryAtCycleEnd c own r.decodes r.position now
        (e.lane.bind fun lane => watches.getD (lane - 1) none) x e
    | none => entryWithoutResult e
  { o with entry := o.entry.dropStale now }

/-- The watches after a cycle end: those of the lanes that handed a place as the entry's outcome
leaves them, the others as they stood. -/
def watchesAfter (outcomes : List EntryOutcome) (watches : List (Option Nat)) :
    List (Option Nat) :=
  watches.zipIdx.map fun (w, k) =>
    match outcomes.find? fun o => o.handed && o.entry.lane = some (k + 1) with
    | some o => o.watch
    | none => w

/-- What the listening side found at a cycle end: the codes whose frames, and whose aligned frames,
were accepted, and whether a realignment is called for. -/
structure Heard where
  accepted : List Nat
  aligned : List Nat
  realign : Bool
  deriving DecidableEq, Repr

/-- The table and the frame unit take the lanes' results (R59, R84, R97 to R103); the cycle count has
already advanced. -/
def takeResults (c : Settings) (own : Condition) (r : CycleReport) (s : State) : State × Heard :=
  let outcome := slotOutcome c own r s.frames.cycleCount s.frames.watches
  let outcomes := (entriesOf s.table.slots).map outcome
  ((s.setTable
      { s.table with slots := mapEntries (fun e => some (outcome e).entry) s.table.slots }).setFrames
      { s.frames with watches := watchesAfter outcomes s.frames.watches },
    { accepted := (outcomes.filter EntryOutcome.accepted).map fun o => o.entry.code
      aligned := (outcomes.filter EntryOutcome.aligned).map fun o => o.entry.code
      realign := outcomes.any EntryOutcome.realigns })

/-! ### Supervisor -/

/-- What CYCLE_END leaves of its warn test to a boundary of the same instant, where the environment has it
come after that boundary (R161). It comes before a BROWNOUT entry of the instant all the same, which
leaves the flag set (R164, R165, log 36). -/
def warnLeft (inputs : CycleInputs) (loaded : Bool) (boundary : Option BoundaryKind)
    (meanS : Option Nat) : Option Nat :=
  if inputs.warnLast && loaded && boundary.isSome then meanS else none

/-- The supervisor's facts of a cycle end but the warn test: the loss of the working mark with the lock
(R159), and the STAGE latch (R16). -/
def superviseCycle (lost stage : Bool) (u : Supervisor) : Supervisor :=
  { u with
    working := u.working && !lost
    alarms := { u.alarms with stage := u.alarms.stage || stage } }

/-! ### The blocks' work at a cycle end -/

/-- The entries read at the end of a cycle (R70): those whose lane handed a result, and those whose pending
offset the frame unit looks at (R84). -/
def readAtCycleEnd (r : CycleReport) (e : Entry) : Bool :=
  (r.results.any fun x => x.code = e.code) || e.offset.isSome

/-- The cycle end of a device with a configuration: every block takes its hand-over. The result is the
state with the blocks changed, what was heard, and the weighted error. An entry that fails its check here
is gone before a dwell end of the same instant, so its slot is free for the offer (R57, R71, log 28). -/
def blocksAtCycleEnd (c : Settings) (r : CycleReport) (s : State) : State × Heard × Option Int :=
  let e := cycleError r s
  let (agreement, lost) := agreeAtCycleEnd r e s.supervisor.condition s.agreement
  let own := decidingCondition lost s
  let keying := driveComparisons c r s.keying
  let s :=
    { s with
      keying := keying
      correlator := gatherFigures r s.agreement.relock s.correlator
      regulation := gatherSample c r.disturbed r.position r.instantOff s.regulation
      agreement := agreement
      supervisor := superviseCycle lost (keying.stage && !s.keying.stage) s.supervisor }
  let s := checkParity (fun _ => readAtCycleEnd r) s
  let (s, heard) := takeResults c own r s
  (s, heard, e)

/-! ### The next cycle -/

/-- The front end cleared for a new cycle (R29), with the mean S handed over standing as the last one
(R27), P, I and V sampled from ms 0 where the condition samples them (R28). That the mean current and the mean
voltage go too, once handed over, is the model's choice (log 40). -/
def clearFront (meanS : Option Nat) (samples : Bool) (f : FrontEnd) : FrontEnd :=
  { State.reset.front with
    unbroken := samples
    whole := samples
    lastMeanS := meanS.or f.lastMeanS }

/-- The new cycle (R1 to R3, R10, R14, R34, R37, R52): its length and frame position, the front end and
the cycle's marks cleared, its data bit and the lanes' bindings taken. -/
def startCycle (length position : Nat) (meanS : Option Nat) (s : State) : State :=
  takeBit (bindLanes
    { s with
      timer := { phase := 0, length := length, position := position, window := .undecided }
      keying :=
        { s.keying with
          keyed := s.supervisor.condition.output
          demandSum := 0
          demandMs := 0
          segments := []
          meanDemand := none }
      front := clearFront meanS s.supervisor.condition.samples s.front
      correlator :=
        { s.correlator with
          xpSelf := none
          residual := none
          darkSeen := s.supervisor.condition = .dark } })

/-- The boundary a cycle end makes (R3): ordinary at position 31, forced at a realignment elsewhere. -/
def boundaryOf (position : Nat) (realign : Bool) : Option BoundaryKind :=
  if position = 31 then some .ordinary else if realign then some .forced else none

/-- Whether a dwell ends at a cycle end (R51, R53): of cycle-in-epoch 7, or at a forced boundary, with
the waiting mark clear. A FAULT entered while the mark is set leaves it set, and so the code where it is
(R53 before R54, log 38). -/
def dwellEnds (loaded waiting : Bool) (position : Nat) (boundary : Option BoundaryKind) : Bool :=
  loaded && !waiting && (position % 8 = 7 || boundary = some .forced)

/-- The cycle end with its facts, the warn test where it comes before a boundary (R161, R163), the new
cycle started, the search lane's read of its start (R70) made before a dwell end of the same instant
(log 28). One mean S that passes both recovery levels clears the warn flag here, before the BROWNOUT exit it
gives (R163 before R165, log 39). `s0` is the state the cycle ended in, `s` the state after the blocks' work. -/
def closeCycle (inputs : CycleInputs) (s0 : State) (heard : Heard) (e : Option Int) (s : State) : State :=
  let p := s0.timer.position
  let boundary := boundaryOf p heard.realign
  let next := if heard.realign then 0 else (p + 1) % 32
  let meanS := supplyMean s0.front
  let left := warnLeft inputs s0.config.isSome boundary meanS
  let s := derive (takeWarn (if left.isSome then none else meanS) s)
  let s := startCycle (25600 + adjustmentOf e).toNat next meanS
    (readAll (upsetEntries inputs.started s))
  { s with
    freeCount := s.freeCount + 1
    edge :=
      some
        { ended := p
          boundary := boundary
          started := next
          dwellDue := dwellEnds s0.config.isSome s0.correlator.waiting p boundary
          offer := none
          accepted := heard.accepted
          aligned := heard.aligned
          meanS := meanS
          warnDue := left
          endedCodes := s0.correlator.startCodes } }

/-- The cycle end, time having run on to the cycle's length. The cycle count advances in every
condition (R84, R108, R156); without a configuration no other block has work. -/
def endCycle (inputs : CycleInputs) (s0 : State) : State :=
  let s := upsetEntries inputs.ended
    (s0.setFrames { s0.frames with cycleCount := (s0.frames.cycleCount + 1) % 65536 })
  match s0.config with
  | none => closeCycle inputs s0 { accepted := [], aligned := [], realign := false } none s
  | some c =>
    let (s, heard, e) := blocksAtCycleEnd c (cycleReport c s0) s
    closeCycle inputs s0 heard e s

/-- CYCLE_END (R1), while no reset holds the device (R18). -/
def execCycleEnd (s : State) (inputs : CycleInputs := {}) : Host.Outcome State Fault Refusal :=
  .next (if s.held then s else drive (endCycle inputs (runTo s.timer.length s)))

end Sys2Proof.Machine
end

