-- ==== Sys2Proof/Machine/Boundary.lean ====
section
/-! DEFINITION. DWELL_END and FRAME_BOUNDARY: the search lane's dwell end (R51, R52) and the boundary work
of every block in its stated order (R47 to R49, R60 to R69, R79, R88, R89, R93, R105, R111, R135,
R157 to R161). -/

namespace Sys2Proof.Machine

/-! ### The dwell end -/

/-- The dwell figure (R51). -/
def dwellFigure (k : Correlator) : Option Nat :=
  if k.dwellCount = 0 then none else some (roundDiv k.dwellSum k.dwellCount).toNat

/-- The offer a dwell end makes (R51): its code and figure, where the figure reaches g_detect and no
entry stands on the code. -/
def dwellOffer (c : Settings) (s : State) : Option (Nat × Nat) :=
  match dwellFigure s.correlator with
  | some g =>
    if c.gDetect ≤ g && !(codesOf s.table.slots).contains s.correlator.dwellCode then
      some (s.correlator.dwellCode, g)
    else none
  | none => none

/-- The search lane moved on to its next dwell (R51, R52). -/
def moveDwell (c : Settings) (passed : List Nat) (k : Correlator) : Correlator :=
  { k with
    dwellSum := 0
    dwellCount := 0
    dwellCode := nextDwell c.ownCode passed 63 k.dwellCode }

/-- The dwell end owed at the cycle end just taken, unless the search lane has begun to wait since
(R53): an offer reaches the table at once, or waits for the boundary work of the same cycle end
(R57, R60), where it stands though a BROWNOUT entry of that instant comes between (log 34). The codes
passed over are those of the ended cycle's start, one removed within that cycle among them (R52, log 35). -/
def takeDwellEnd (c : Settings) (g : CycleEdge) (s : State) : State :=
  if !g.dwellDue || s.correlator.waiting then s
  else
    let offer := dwellOffer c s
    let s := s.setCorrelator (moveDwell c g.endedCodes s.correlator)
    if g.boundary.isSome then s.setEdge (some { g with dwellDue := false, offer := offer })
    else
      let slots :=
        match offer with
        | some (code, figure) => admitOffer c.ownCode code figure s.table.slots
        | none => s.table.slots
      let s := s.setTable { s.table with slots := slots }
      (s.setCorrelator { s.correlator with startCodes := codesOf slots }).setEdge
        (some { g with dwellDue := false })

/-- DWELL_END (R51), at the cycle end that ends a dwell. -/
def execDwellEnd (s : State) : Host.Outcome State Fault Refusal :=
  .next
    (match s.config, s.edge with
    | some c, some g => if s.held then s else takeDwellEnd c g s
    | _, _ => s)

/-! ### The self lane -/

/-- The frame mean s̄ (R47). -/
def selfMean (k : Correlator) : Option Int :=
  if k.selfCount = 0 then none else some (roundDiv k.selfSum k.selfCount)

/-- Whether a frame mean is a reversed one (R49). -/
def reversedMean (c : Settings) (mean : Int) : Bool :=
  mean < 0 && c.gDetect ≤ mean.natAbs

/-- The self lane after a boundary (R47 to R49). -/
def selfAtBoundary (c : Settings) (k : Correlator) : Correlator :=
  let k' := { k with selfSum := 0, selfCount := 0 }
  match selfMean k with
  | none => k'
  | some mean =>
    let k' := { k' with reversed := if reversedMean c mean then countUp 2 k.reversed else 0 }
    if 0 < mean && c.gDetect ≤ mean then
      { k' with
        gSelf := if k.gSelfValid then smooth k.gSelf mean.toNat else mean.toNat
        gSelfValid := true }
    else k'

/-- Whether the correlator hands over REVERSED at a boundary (R49): the count reaches 2 there. -/
def reversedCause (c : Settings) (k : Correlator) : Bool :=
  (selfMean k).any (reversedMean c) && (selfAtBoundary c k).reversed = 2

/-! ### Supervisor and phase agreement -/

/-- A SOLITARY station whose table presents a TRACKED entry becomes LOCKED (R79). -/
def leaveSolitary (slots : List (Option Entry)) (a : Agreement) : Agreement :=
  if a.lock = .solitary && (entriesOf slots).any Entry.isTracked then
    { a with lock := .locked, loss := 0 }
  else a

/-- The solitary count after a boundary in ACQUIRING (R157). -/
def solitaryAfter (slots : List (Option Entry)) (n : Nat) : Nat :=
  if (entriesOf slots).any fun e => e.state ≠ .parked then 0 else countUp 16 n

/-- Whether two consecutive aligned frames from one code qualify a LOCKED station (R158). -/
def alignedQualifies (lock : LockState) (last now : List Nat) : Bool :=
  lock = .locked && now.any fun code => last.contains code

/-- The supervisor's facts settled at a boundary (R157, R158, R160, R161): the hold request taken, a
REVERSED cause, the two qualification tests where the condition held before the boundary is
ACQUIRING, the last aligned codes, and whether a survey runs. -/
def settleFacts (reversed : Bool) (slots : List (Option Entry)) (lock : LockState)
    (aligned : List Nat) (running : Bool) (u : Supervisor) : Supervisor :=
  let acquiring := decide (u.condition = .acquiring)
  let solitary := if acquiring then solitaryAfter slots u.solitary else u.solitary
  { u with
    hold :=
      match u.pendingHold with
      | some .hold => true
      | some .free => false
      | none => u.hold
    pendingHold := none
    faultCause := u.faultCause.or (if reversed then some .reversed else none)
    solitary := solitary
    working :=
      u.working ||
        (acquiring && (solitary = 16 || alignedQualifies lock u.lastAligned aligned))
    lastAligned := aligned
    surveyRunning := running }

/-- Phase agreement after the solitary decision (R79, R157). -/
def takeSolitary (acquiring : Bool) (solitary : Nat) (a : Agreement) : Agreement :=
  if acquiring && solitary = 16 then { a with lock := .solitary, acquisition := 0 } else a

/-- The supervisor's boundary work (R161): the facts settled, the solitary decision handed to phase
agreement, and the condition for the new frame derived. -/
def superviseBoundary (reversed : Bool) (aligned : List Nat) (s : State) : State :=
  let acquiring := decide (s.supervisor.condition = .acquiring)
  let u := settleFacts reversed s.table.slots s.agreement.lock aligned
    (s.survey.phaseNow = .running) s.supervisor
  derive ((s.setSupervisor u).setAgreement (takeSolitary acquiring u.solitary s.agreement))

/-! ### Table, regulation and survey coordinator -/

/-- The table's boundary work on the state (R60), after the records have aged (R105, log 12). -/
def tableBoundary (c : Settings) (g : CycleEdge) (s : State) : State :=
  let aged := mapEntries (fun e => some (e.ageRecord g.accepted)) s.table.slots
  let (slots, touched) := tableWork c g.offer aged
  ((s.setTable { s.table with slots := slots }).setFrames
    { s.frames with watches := dropWatches touched s.frames.watches }).setAgreement
      (leaveSolitary slots s.agreement)

/-- A read of the TRACKED entries with a frame accepted at this boundary, as regulation makes it (R68,
R70): one that fails is removed after the arbitration (R71). -/
def readForRegulation (struck : List Nat) (s : State) : State :=
  checkParity (fun _ e => e.isTracked && e.fresh) (upsetEntries struck s)

/-- A read of the entries with a frame accepted at this boundary, as the survey coordinator makes it (R68,
R70, R135). -/
def readForSurvey (struck : List Nat) (s : State) : State :=
  checkParity (fun _ e => e.fresh) (upsetEntries struck s)

/-- Regulation's apply stage (R111 to R113) and the frame mean (R115). -/
def applyBoundary (kind : BoundaryKind) (s : State) : State :=
  s.setRegulation (closeMean (applyStep kind (neighbourSteps s.table.slots) s.regulation))

/-- The coordinator's work, and the survey adjustment (R131, R135). -/
def surveyBoundary (c : Settings) (s : State) : State :=
  let survey := s.survey.boundary (surveyFrames s.table.slots)
  (s.setSurvey survey).setRegulation
    (adjustForSurvey c (surveyRequest s.survey survey) s.regulation)

/-- Regulation's plan stage and the alarms of its causes (R116, R128); `applied` is the step u. -/
def planBoundary (c : Settings) (applied : Int) (s : State) : State :=
  let r := planStage c (s.supervisor.condition = .regulating) s.correlator.gSelf
    s.correlator.gSelfValid s.keying.voltageLimit applied (planNeighbours s.table.slots)
    s.regulation
  (s.setRegulation r).latch (latchCauses r)

/-- The own frame of the frame that starts (R93, R94). -/
def nextFrame (s : State) : List Bool :=
  let r := s.regulation
  buildFrame s.supervisor.condition r.staged s.survey (r.floor || r.ilimit || r.vlimit)
    (r.noself || s.keying.stage)

/-- The frame unit's boundary work (R93, R107): the own frame built, and at a forced boundary every
pending offset dropped (R88), in entries it reads and writes (R70). -/
def frameBoundary (kind : BoundaryKind) (s : State) : State :=
  let s := s.setFrames { s.frames with ownFrame := some (nextFrame s) }
  match kind with
  | .ordinary => s
  | .forced =>
    let s := readAll s
    s.setTable
      { s.table with
        slots := mapEntries (fun e => some (Entry.written { e with offset := none }))
          s.table.slots }

/-! ### The boundary -/

/-- The blocks' boundary work in order (R60, R93, R111, R135, R161): the reads of the entries, the self
lane, the table, regulation's apply stage, the survey coordinator and the survey adjustment, the
supervisor, the plan, and the frame unit. A code whose entry no longer stands is not handed to the
supervisor (R106), which reads the table at its turn (log 28). -/
def boundaryWork (c : Settings) (kind : BoundaryKind) (upsets : BoundaryUpsets) (g : CycleEdge)
    (s : State) : State :=
  let s := readAll (upsetEntries upsets.work s)
  let reversed := reversedCause c s.correlator
  let applied := appliedStep kind s.regulation
  let s := s.setCorrelator (selfAtBoundary c s.correlator)
  let s := tableBoundary c g s
  let s := applyBoundary kind (readForRegulation upsets.apply s)
  let s := surveyBoundary c (readForSurvey upsets.survey s)
  let aligned := g.aligned.filter fun code => (codesOf s.table.slots).contains code
  let s := superviseBoundary reversed aligned s
  let s := planBoundary c applied (readForRegulation upsets.plan s)
  frameBoundary kind s

/-- The boundary taken: the dwell end of the same cycle end first, where it is still owed, since its
offer belongs to this boundary's work (R60); then the blocks' work; then the cycle that starts here
takes its data bit and bindings, every entry read at its start, one struck since the boundary's last
read among them (R10, R34, R52, R70, log 6); and last a warn test that the cycle end left to it (R161,
R163, log 36). -/
def takeBoundary (c : Settings) (kind : BoundaryKind) (upsets : BoundaryUpsets) (g : CycleEdge)
    (s : State) : State :=
  let s := takeDwellEnd c g s
  let g := s.edge.getD g
  let s := takeBit (bindLanes (readAll (upsetEntries upsets.started (boundaryWork c kind upsets g s))))
  derive (takeWarn g.warnDue
    (s.setEdge (some { g with boundary := none, offer := none, warnDue := none })))

/-- A boundary of a device without a configuration: once its load has failed only the supervisor works
(R156), which takes the pending hold request (R160, R161); before the end of the load no block does. -/
def takeBareBoundary (g : CycleEdge) (s : State) : State :=
  (if s.load = .ended then superviseBoundary false [] s else s).setEdge
    (some { g with boundary := none })

/-- FRAME_BOUNDARY (R60), at a cycle end that is a boundary not yet taken. -/
def execFrameBoundary (s : State) (upsets : BoundaryUpsets := {}) : Host.Outcome State Fault Refusal :=
  .next
    (match s.edge with
    | some g =>
      match g.boundary, s.config with
      | some kind, some c => if s.held then s else drive (takeBoundary c kind upsets g s)
      | some _, none => if s.held then s else drive (takeBareBoundary g s)
      | none, _ => s
    | none => s)

end Sys2Proof.Machine
end

