-- ==== Sys2Proof/Machine/Supply.lean ====
section
/-! DEFINITION. MAINS_CHANGE, BROWNOUT_ENTRY and BROWNOUT_EXIT: the events of the MAINS line and of the
supply monitor (R32, R53, R80, R81, R162, R164, R165). -/

namespace Sys2Proof.Machine

/-- The MAINS level taken, and the condition derived (R162). -/
def takeMains (present : Bool) (s : State) : State :=
  derive (s.setSupervisor { s.supervisor with mains := present })

/-- MAINS_CHANGE (R162). The level is read continuously, through a reset too (R151). -/
def execMainsChange (present : Bool) (unit : Nat) (s : State) : Host.Outcome State Fault Refusal :=
  .next (drive (takeMains present (if s.held then s else runToUnit unit s)))

/-- Whether the millisecond that has just ended is the last whose sample the cycle holds (R20): a run
that completes with it is taken at the cycle end (R164, R165). -/
def lastSampleTaken (s : State) : Bool :=
  min (s.timer.length / 20) 1280 ≤ s.ms

/-- Whether a supply run that stands at 100 is taken now. -/
def runTaken (run : Nat) (s : State) : Bool :=
  run = 100 && !lastSampleTaken s

/-- Whether the mean S of the cycle end just taken passes a test not yet made at it. -/
def edgeMean (test : Nat → Bool) (s : State) : Bool :=
  (s.edge.bind CycleEdge.meanS).any test

/-- Whether the brownout entry is due (R164): from the end of an accepted load, the flag clear, by the
low run or by the mean S. -/
def brownoutEntryDue (s : State) : Bool :=
  !s.held && s.config.isSome && !s.supervisor.brownout &&
    (runTaken s.supervisor.lowRun s || edgeMean (fun m => m < brownoutEntryLevel) s)

/-- Whether the recovery is due (R165). -/
def brownoutExitDue (s : State) : Bool :=
  !s.held && s.config.isSome && s.supervisor.brownout &&
    (runTaken s.supervisor.highRun s || edgeMean (fun m => brownoutExitLevel ≤ m) s)

/-- The mean S of the cycle end used up by an entry or exit at it: one test is made with it. That an entry or
exit which a run gives there uses it up too is the model's choice (log 21). -/
def useMean (s : State) : State :=
  s.setEdge (s.edge.map fun g => { g with meanS := none })

/-- A warn test still to come counted as made before the entry, which sets the flag whatever it gave
(R164, log 36). -/
def passWarn (s : State) : State :=
  s.setEdge (s.edge.map fun g => { g with warnDue := none })

/-- The supervisor's own actions at entry (R164, R165): they stand in FAULT too. -/
def enterBrownout (u : Supervisor) : Supervisor :=
  { u with
    brownout := true
    warn := true
    working := false
    lowRun := 0
    highRun := 0
    alarms := { u.alarms with supply := true } }

/-- What the other blocks do at a BROWNOUT entry: XP_self and the residual result are discarded (R37),
the search lane waits with its dwell emptied (R53), and phase agreement is UNLOCKED (R80). -/
def blocksEnterBrownout (s : State) : State :=
  (s.setCorrelator
    { s.correlator with
      xpSelf := none, residual := none, waiting := true, dwellSum := 0, dwellCount := 0 }).setAgreement
    { s.agreement with lock := .unlocked, acquisition := 0, loss := 0 }

/-- BROWNOUT_ENTRY (R164), which sets the warn flag after any warn test of the same instant (log 36). Under
FAULT it is no BROWNOUT entry for the other blocks (R165). -/
def execBrownoutEntry (s : State) : Host.Outcome State Fault Refusal :=
  .next
    (if brownoutEntryDue s then
      let s := passWarn (useMean (s.setSupervisor (enterBrownout s.supervisor)))
      drive (derive (if s.supervisor.faultCause.isSome then s else blocksEnterBrownout s))
    else s)

/-- BROWNOUT_EXIT (R165): both runs return to 0, and unless FAULT holds the relock span is set (R81). The
cycle in flight stays not complete, at a cycle end the one that starts there (R32, log 27). The warn flag
stands as the warn test of the cycle end left it (R163, log 39). -/
def execBrownoutExit (s : State) : Host.Outcome State Fault Refusal :=
  .next
    (if brownoutExitDue s then
      let s := useMean
        (s.setSupervisor { s.supervisor with brownout := false, lowRun := 0, highRun := 0 })
      drive (derive
        (if s.supervisor.faultCause.isSome then s
         else s.setAgreement { s.agreement with relock := 8 }))
    else s)

end Sys2Proof.Machine
end

