-- ==== Sys2Proof/Machine/ServiceLine.lean ====
section
/-! DEFINITION. The service line: CHARACTER_RECEIVED, the command events STATUS, TABLE, CAPT, HOLD, FREE,
SURVEY, CLEAR and RESTART, and TABLE_LINE_READ and REPLY_END (R170 to R178). -/

namespace Sys2Proof.Machine

/-! ### What an accepted command does -/

/-- STATUS (R175): one status line, read at the command event. -/
def acceptStatus (s : State) : State := beginReply [statusLine s] s

/-- TABLE (R176): a reply with every slot still to be read. -/
def acceptTable (s : State) : State :=
  s.setService
    { s.service with reply := some { lines := [], cursor := some { slot := 0, sent := 0 } } }

/-- CAPT n (R177): the oldest n records leave the store for the reply. -/
def acceptCapt (n : Nat) (s : State) : State :=
  beginReply ((s.capture.records.take n).map captureLine ++ [okLine])
    (s.setCapture { s.capture with records := s.capture.records.drop n })

/-- HOLD and FREE (R160, R174). -/
def acceptHold (request : HoldRequest) (s : State) : State :=
  beginReply [okLine] (s.setSupervisor { s.supervisor with pendingHold := some request })

/-- SURVEY (R141, R174). -/
def acceptSurvey (kind : SurveyKind) (count : Nat) (s : State) : State :=
  beginReply [okLine] (s.setSurvey { s.survey with origination := some (kind, count) })

/-- CLEAR (R168). -/
def acceptClear (s : State) : State :=
  beginReply [okLine] (s.setSupervisor { s.supervisor with alarms := clearedAlarms s })

/-- RESTART (R178). -/
def acceptRestart (s : State) : State :=
  let s := beginReply [okLine] s
  s.setService { s.service with pendingRestart := true }

/-- The effect and the reply of an accepted command (R173). -/
def accept : ServiceCommand → State → State
  | .status, s => acceptStatus s
  | .table, s => acceptTable s
  | .capt n, s => acceptCapt n s
  | .hold, s => acceptHold .hold s
  | .free, s => acceptHold .free s
  | .survey kind count, s => acceptSurvey kind count s
  | .clear, s => acceptClear s
  | .restart, s => acceptRestart s

/-! ### The command event -/

/-- The buffer emptied and both marks cleared, as at every carriage return (R171). -/
def clearLine (s : State) : State :=
  s.setService { s.service with buffer := [], overlong := false, badCharacter := false }

/-- The checks of a command and its effect (R172, R173): ?ERR for an argument out of range, then
?STATE in a condition that refuses it, else its effect. -/
def runCommand (k : ServiceCommand) (s : State) : State :=
  if !k.inRange then beginReply [errLine] s
  else if k.refusedIn s.supervisor.condition then beginReply [stateLine] s
  else accept k s

/-- The command event of a line that names a command (R172): none while the line is not taken. It stands
for a whole line of its own, and the buffer and marks of another are cleared (R171, log 16). -/
def commandEvent (k : ServiceCommand) (s : State) : State :=
  if serviceReady s then drive (runCommand k (clearLine s)) else s

/-- STATUS (R175). -/
def execStatus (s : State) : Host.Outcome State Fault Refusal :=
  .next (commandEvent .status s)

/-- TABLE (R176). -/
def execTable (s : State) : Host.Outcome State Fault Refusal :=
  .next (commandEvent .table s)

/-- CAPT n (R177). -/
def execCapt (n : Nat) (s : State) : Host.Outcome State Fault Refusal :=
  .next (commandEvent (.capt n) s)

/-- HOLD (R174). -/
def execHold (s : State) : Host.Outcome State Fault Refusal :=
  .next (commandEvent .hold s)

/-- FREE (R174). -/
def execFree (s : State) : Host.Outcome State Fault Refusal :=
  .next (commandEvent .free s)

/-- SURVEY kind count (R174). -/
def execSurvey (kind : SurveyKind) (count : Nat) (s : State) : Host.Outcome State Fault Refusal :=
  .next (commandEvent (.survey kind count) s)

/-- CLEAR (R168). -/
def execClear (s : State) : Host.Outcome State Fault Refusal :=
  .next (commandEvent .clear s)

/-- RESTART (R178). -/
def execRestart (s : State) : Host.Outcome State Fault Refusal :=
  .next (commandEvent .restart s)

/-! ### Characters -/

/-- A line completed by its carriage return (R171, R172). -/
def completeLine (s : State) : State :=
  let words := wordsOf (bufferText s.service.buffer)
  if s.service.overlong then beginReply [longLine] (clearLine s)
  else if s.service.badCharacter then beginReply [errLine] (clearLine s)
  else if words.isEmpty then clearLine s
  else
    match commandOf words with
    | some k => runCommand k (clearLine s)
    | none => beginReply [errLine] (clearLine s)

/-- A character that is neither a carriage return nor a line feed (R171). -/
def storeCharacter (byte : Byte) (v : Service) : Service :=
  if v.overlong then v
  else if v.buffer.length < 32 then { v with buffer := v.buffer ++ [byte] }
  else { v with overlong := true }

/-- A character received with the line ready (R170, R171). A framing error does nothing but set the
bad-character mark, whatever bits were read and however full the buffer (log 32). -/
def takeCharacter (byte : Byte) (stop : Bool) (s : State) : State :=
  if !stop then s.setService { s.service with badCharacter := true }
  else if byte = 0x0D#8 then completeLine s
  else if byte = 0x0A#8 then s
  else s.setService (storeCharacter byte s.service)

/-- CHARACTER_RECEIVED (R170, R171): discarded while a reply is in progress, a restart is pending or a
reset holds the device. -/
def execCharacterReceived (byte : Byte) (stop : Bool) (s : State) :
    Host.Outcome State Fault Refusal :=
  .next (if serviceReady s then drive (takeCharacter byte stop s) else s)

/-! ### TABLE replies and the end of a reply -/

/-- The read of the slots from `slot` on, `slots` being those still to be read with their numbers
(R176): a slot without an entry gives no line, one that fails its check is removed, the first good
entry gives its line, and past the last slot the closing line is read. -/
def readSlots (lines : List Text) (sent : Nat) : List Nat → State → State
  | [], s =>
    s.setService
      { s.service with
        reply := some { lines := lines ++ [closingLine sent s.table.errors], cursor := none } }
  | slot :: rest, s =>
    let s := checkParity (fun k _ => k = slot) s
    match (s.table.slots.getD slot none : Option Entry) with
    | some e =>
      s.setService
        { s.service with
          reply := some
            { lines := lines ++ [entryLine slot e]
              cursor := some { slot := slot + 1, sent := sent + 1 } } }
    | none => readSlots lines sent rest s

/-- TABLE_LINE_READ (R176), while a TABLE reply has a line still to be read. -/
def execTableLineRead (s : State) (upset : List Nat := []) : Host.Outcome State Fault Refusal :=
  .next
    (match s.held, s.service.reply with
    | false, some { lines, cursor := some k } =>
      drive (readSlots lines k.sent ((List.range 8).drop k.slot) (upsetEntries upset s))
    | _, _ => s)

/-- REPLY_END (R172), when every line of the reply has been read: the reply has been carried whole, each
line with its ending (R182), and the line accepts characters again, unless a restart is pending, which
DEVICE_RESTART then makes (R178, log 30). -/
def execReplyEnd (s : State) : Host.Outcome State Fault Refusal :=
  .next
    (match s.held, s.service.reply with
    | false, some { lines, cursor := none } =>
      drive ((s.setWire (wireText lines)).setService { s.service with reply := none })
    | _, _ => s)

end Sys2Proof.Machine
end

