-- ==== Sys2Proof/Machine/Dispatch.lean ====
section
/-! DEFINITION. exec: one arm per command, each a direct call of its meaning. -/

namespace Sys2Proof.Machine

def exec (i : Instr) (s : State) : Host.Outcome State Fault Refusal :=
  match i with
  | .fullReset sent => Sys2Proof.Machine.execFullReset s sent
  | .resetEnd => Sys2Proof.Machine.execResetEnd s
  | .configLoadStart => Sys2Proof.Machine.execConfigLoadStart s
  | .configLoadEnd image unit => Sys2Proof.Machine.execConfigLoadEnd image unit s
  | .loadNack byte => Sys2Proof.Machine.execLoadNack s byte
  | .loadBusConflict sent => Sys2Proof.Machine.execLoadBusConflict s sent
  | .loadTimeout sent => Sys2Proof.Machine.execLoadTimeout s sent
  | .sample potential current voltage supply => Sys2Proof.Machine.execSample potential current voltage supply s
  | .keyingSpanEnd => Sys2Proof.Machine.execKeyingSpanEnd s
  | .offWindowDecision => Sys2Proof.Machine.execOffWindowDecision s
  | .offWindowEnd => Sys2Proof.Machine.execOffWindowEnd s
  | .cycleEnd inputs => Sys2Proof.Machine.execCycleEnd s inputs
  | .frameBoundary upsets => Sys2Proof.Machine.execFrameBoundary s upsets
  | .dwellEnd => Sys2Proof.Machine.execDwellEnd s
  | .mainsChange present unit => Sys2Proof.Machine.execMainsChange present unit s
  | .brownoutEntry => Sys2Proof.Machine.execBrownoutEntry s
  | .brownoutExit => Sys2Proof.Machine.execBrownoutExit s
  | .characterReceived byte stop => Sys2Proof.Machine.execCharacterReceived byte stop s
  | .status => Sys2Proof.Machine.execStatus s
  | .table => Sys2Proof.Machine.execTable s
  | .tableLineRead upset => Sys2Proof.Machine.execTableLineRead s upset
  | .capt n => Sys2Proof.Machine.execCapt n s
  | .hold => Sys2Proof.Machine.execHold s
  | .free => Sys2Proof.Machine.execFree s
  | .survey kind count => Sys2Proof.Machine.execSurvey kind count s
  | .clear => Sys2Proof.Machine.execClear s
  | .restart => Sys2Proof.Machine.execRestart s
  | .replyEnd => Sys2Proof.Machine.execReplyEnd s
  | .deviceRestart => Sys2Proof.Machine.execDeviceRestart s

end Sys2Proof.Machine
end

