-- ==== Sys2Proof/WellFormed.lean ====
section
/-! DEFINITION. Which commands are well formed: the operand ranges the spec gives. A command that is not
well formed still has a meaning (R172 answers a bad count with ?ERR); the checks say what the
environment of the spec can send. -/

namespace Sys2Proof

/-- The operand ranges: 30 image bytes (R155), 20 timer units to a millisecond (R1), three address bytes
and 36 actions to a transfer (R154), slots 0 to 7 (R56), CAPT 1..64 and SURVEY counts 1..31 (R172). -/
def Instr.wellFormed : Instr → Bool
  | .configLoadEnd image unit => image.length = 30 && unit < 20
  | .mainsChange _ unit => unit < 20
  | .capt n => 1 ≤ n && n ≤ 64
  | .survey _ count => 1 ≤ count && count ≤ 31
  | .loadNack byte => 1 ≤ byte && byte ≤ 3
  | .loadBusConflict sent | .loadTimeout sent => sent < 36
  | .cycleEnd inputs => (inputs.ended ++ inputs.started).all (· < 8)
  | .frameBoundary upsets =>
    (upsets.work ++ upsets.apply ++ upsets.survey ++ upsets.plan ++ upsets.started).all (· < 8)
  | .tableLineRead upset => upset.all (· < 8)
  | .fullReset _ | .resetEnd | .configLoadStart => true
  | .sample _ _ _ _ | .keyingSpanEnd | .offWindowDecision | .offWindowEnd => true
  | .dwellEnd | .brownoutEntry | .brownoutExit | .characterReceived _ _ => true
  | .status | .table | .hold | .free | .clear | .restart => true
  | .replyEnd | .deviceRestart => true

end Sys2Proof
end

