-- ==== Sys2Proof/Safety.lean ====
section
/-! DEFINITION. What counts as a safe run and a sound state, in the terms the statements use: the occasions
of the commands, the well-timed step, and the invariants. -/

namespace Sys2Proof.Safety

open Sys2Proof.Machine

/-! ### Well-timed commands (log 2 to 4) -/

/-- Whether the restart of an answered RESTART is still to be taken (R178, log 30). -/
def restartDue (s : State) : Bool :=
  s.service.pendingRestart && s.service.reply.isNone && !s.held

/-- Whether a dwell end or a boundary of the present instant, or a restart, is still to be taken. -/
def cycleOwed (s : State) : Bool :=
  (match s.edge with
    | some g => g.boundary.isSome || (g.dwellDue && !s.correlator.waiting)
    | none => false)
    || restartDue s

/-- Whether an event of the present instant is still to be taken: a dwell end, a boundary, a restart, or
a supply event. A line taken meanwhile would see one side of the instant in some fields and the other
in others (R175, log 29). -/
def owed (s : State) : Bool :=
  cycleOwed s || brownoutEntryDue s || brownoutExitDue s

/-- Whether the line takes a whole command now (R170, R172), no part of another having been received
(R171, log 16). -/
def lineFree (s : State) : Bool :=
  serviceReady s && s.service.buffer.isEmpty && !s.service.overlong && !s.service.badCharacter

/-- The service line once it has taken a command and begun a reply of the given lines (R171, R172). -/
def answered (lines : List Text) (s : State) : Service :=
  { s.service with
    buffer := [], overlong := false, badCharacter := false,
    reply := some { lines := lines, cursor := none } }

/-- The device once a service line has begun a reply of the given lines: the transmit line carries it
(R170 to R172), and nothing else has changed. -/
def replying (lines : List Text) (s : State) : State :=
  { s with
    service := answered lines s, pins := { s.pins with txd := .sending (wireText lines) } }

/-- The condition a boundary from `s` to `t` settles for the new frame: the facts as the boundary leaves
them, with the warn flag held before it, since a warn test may come after it at the same instant (R161,
log 36). -/
def settledCondition (s t : State) : Condition :=
  conditionOf t.config.isSome { t.supervisor with warn := s.supervisor.warn }

/-- The row of the table that stands for the command event of a well-formed line (log 16). -/
def rowOf : ServiceCommand → Instr
  | .status => .status
  | .table => .table
  | .capt n => .capt n
  | .hold => .hold
  | .free => .free
  | .survey kind count => .survey kind count
  | .clear => .clear
  | .restart => .restart

/-- Whether a command finds its occasion at all (log 2, log 3): off it, it changes nothing. An event of the
cycle still finds it while its moment has not passed. -/
def occasion (c : Instr) (s : State) : Bool :=
  match c with
  | .fullReset _ | .mainsChange _ _ => true
  | .resetEnd => s.held
  | .configLoadStart => s.load = .waiting
  | .configLoadEnd _ _ | .loadNack _ | .loadBusConflict _ => s.load = .reading
  | .loadTimeout _ => s.load = .waiting || s.load = .reading
  | .sample _ _ _ _ => !s.held && 20 * (s.ms + 1) ≤ s.timer.length
  | .keyingSpanEnd => !s.held && s.timer.phase ≤ 19200
  | .offWindowDecision => !s.held && s.timer.phase ≤ 19400 && s.timer.window = .undecided
  | .offWindowEnd =>
    !s.held && s.timer.window = .opened && s.config.any fun c => s.timer.phase ≤ windowEnd c
  | .cycleEnd _ => !s.held
  | .frameBoundary _ => !s.held && (s.edge.bind CycleEdge.boundary).isSome
  | .dwellEnd =>
    !s.held && s.config.isSome && s.edge.any fun g => g.dwellDue && !s.correlator.waiting
  | .brownoutEntry => brownoutEntryDue s
  | .brownoutExit => brownoutExitDue s
  | .characterReceived _ _ => serviceReady s
  | .status | .table | .capt _ | .hold | .free | .survey _ _ | .clear | .restart => serviceReady s
  | .tableLineRead _ => !s.held && (s.service.reply.bind Reply.cursor).isSome
  | .replyEnd => !s.held && s.service.reply.any fun r => r.cursor.isNone
  | .deviceRestart => restartDue s

/-- Whether a command is well timed: at its own moment of the cycle, with nothing of an earlier
instant owed. An environment that keeps to this is the one the spec describes (log 2 to 4, 29, 30). A
supply event that falls with the end of the keying span, the OFF window's decision or its end may come
before it or after it (log 33). A reset cannot have cut off more of a reply than had been read (R182). -/
def wellTimed (c : Instr) (s : State) : Bool :=
  match c with
  | .fullReset sent =>
    match s.service.reply with
    | some r => sent ≤ (wireText r.lines).length
    | none => sent = 0
  | .resetEnd => s.held
  | .configLoadStart => s.load = .waiting
  | .configLoadEnd _ _ | .loadNack _ | .loadBusConflict _ => s.load = .reading
  | .loadTimeout _ => s.load = .waiting || s.load = .reading
  | .sample _ _ _ _ => !s.held && 20 * (s.ms + 1) ≤ s.timer.length && !owed s
  | .keyingSpanEnd => !s.held && s.timer.phase = 19200 && !cycleOwed s
  | .offWindowDecision =>
    !s.held && s.timer.phase = 19400 && s.timer.window = .undecided && !cycleOwed s
  | .offWindowEnd =>
    !s.held && s.timer.window = .opened && !cycleOwed s &&
      s.config.any fun c => s.timer.phase = windowEnd c
  | .cycleEnd _ => !s.held && s.timer.length < 20 * (s.ms + 1) && s.timer.window ≠ .opened && !owed s
  | .frameBoundary _ => !s.held && (s.edge.bind CycleEdge.boundary).isSome
  | .dwellEnd =>
    !s.held && s.config.isSome && s.edge.any fun g => g.dwellDue && !s.correlator.waiting
  | .mainsChange _ unit =>
    unit < 20 && (s.held || 20 * s.ms + unit ≤ s.timer.phase || !owed s)
  | .brownoutEntry => brownoutEntryDue s
  | .brownoutExit => brownoutExitDue s
  | .characterReceived _ _ => !owed s
  | .status | .table | .capt _ | .hold | .free | .survey _ _ | .clear | .restart =>
    lineFree s && !owed s
  | .tableLineRead _ => !s.held && (s.service.reply.bind Reply.cursor).isSome && !owed s
  | .replyEnd => !s.held && s.service.reply.any fun r => r.cursor.isNone
  | .deviceRestart => restartDue s

/-- A safe run of a list of commands: each well formed and on its occasion. -/
def safeRun : List Instr → State → Prop
  | [], _ => True
  | c :: rest, s =>
    c.wellFormed = true ∧ wellTimed c s = true ∧ ∃ t, exec c s = .next t ∧ safeRun rest t

/-! ### Invariants -/

/-- The condition is the one the facts give (R152), no OFF window is open without output (R5, R6), and
the pins are driven as the state gives them (R7, R12, R13, R166, R167). -/
def StationOk (s : State) : Prop :=
  s.supervisor.condition = conditionOf s.config.isSome s.supervisor ∧
    (s.timer.window = .opened → s.supervisor.condition.output = true) ∧
    s.pins = pinsNow s

/-- The timer's ranges (R1 to R3), W within R181's, and the facts of a cycle end held only while no
time has passed since it (log 4). -/
def TimerOk (s : State) : Prop :=
  s.timer.phase ≤ s.timer.length ∧ 25560 ≤ s.timer.length ∧ s.timer.length ≤ 25640 ∧
    s.timer.position < 32 ∧ (∀ c, s.config = some c → c.windowLength ≤ 250) ∧
    (s.edge.isSome = true → s.timer.phase = 0)

/-- An entry's own consistency (R55, R56): TRACKED exactly when bound, to one of lanes 1 to 4; a
history of 32 places; counts in their ranges. -/
def EntryOk (e : Entry) : Prop :=
  (e.state = .tracked ↔ e.lane.isSome = true) ∧ (∀ lane ∈ e.lane, 1 ≤ lane ∧ lane ≤ 4) ∧
    e.history.length = 32 ∧ e.age ≤ 255 ∧ e.low ≤ 2 ∧ e.discarded ≤ 255

/-- The slots of a table for a station on a code (R56): eight, the entries on distinct codes none of
which is the own code, each lane bound to at most one. -/
def SlotsOk (ownCode : Nat) (slots : List (Option Entry)) : Prop :=
  slots.length = 8 ∧ (codesOf slots).Nodup ∧ ownCode ∉ codesOf slots ∧
    ((entriesOf slots).filterMap Entry.lane).Nodup ∧ ∀ e ∈ entriesOf slots, EntryOk e

/-- The table's invariant: before a configuration stands it is empty (R73). -/
def TableOk (s : State) : Prop :=
  match s.config with
  | none => s.table.slots.length = 8 ∧ entriesOf s.table.slots = []
  | some c => SlotsOk c.ownCode s.table.slots

/-- The set current (R11, R130, R131): absent before a configuration stands; then within
[I_min, I_max] before and after the staged step, or K with the resume current within the range
and nothing staged while a DEPOLARIZE survey runs. -/
def CurrentOk (s : State) : Prop :=
  match s.config with
  | none => s.regulation.setCurrent = none ∧ s.regulation.resume = none
  | some c =>
    (c.depth : Int) ≤ c.iMin ∧ c.iMin ≤ c.iMax ∧
      ∃ i, s.regulation.setCurrent = some i ∧
        match s.regulation.resume with
        | none =>
          s.survey.runs .depolarize = false ∧ c.iMin ≤ i ∧ i ≤ c.iMax ∧
            c.iMin ≤ i + s.regulation.staged ∧ i + s.regulation.staged ≤ c.iMax
        | some r =>
          s.survey.runs .depolarize = true ∧ i = c.depth ∧ s.regulation.staged = 0 ∧
            c.iMin ≤ r ∧ r ≤ c.iMax

/-- A configuration stands only once its load has ended (R155), so no later load event changes it. -/
def LoadOk (s : State) : Prop :=
  s.config.isSome = true → s.load = .ended

/-- The capture store (R147): at most 512 records, and counters within 16 bits. -/
def CaptureOk (s : State) : Prop :=
  s.capture.records.length ≤ 512 ∧ s.capture.nextSequence < 65536 ∧ s.capture.drops ≤ 65535

/-- A survey record whose fields lie in their ranges (R134). -/
def surveyInRange (v : Survey) : Bool :=
  v.generation ≤ 15 &&
    match v.phase with
    | .over => v.count = 0
    | .pending => v.kind ≠ .none && 1 ≤ v.count && v.count ≤ 31
    | .running => v.kind ≠ .none && 1 ≤ v.count && v.count ≤ 512

end Sys2Proof.Safety
end

