-- ==== Sys2Proof/Certificates/Slice0/Obligations.lean ====
section
/-! DEFINITION. The statements for the provers, one Prop each. A frame is written t = { s with f := t.f, … }:
every field of the state but those named is as it was. -/

open Sys2Proof Sys2Proof.Machine Sys2Proof.Safety

/-! ### Steps and the queue -/

/-- A step runs the command at the front of the queue on the state with the queue's rest. -/
def Obligations.StepRunsFrontCommand : Prop :=
  ∀ (c : Instr) (rest : List Instr) (s : State),
    s.pending = c :: rest → step s = exec c { s with pending := rest }

/-- Every command completes in every state, and none touches the queue. That a command still completes, as
no change, in a state where its event cannot fall is the model's choice (log 2), and so is the queue
(log 5). -/
def Obligations.EveryCommandCompletes : Prop :=
  ∀ (c : Instr) (s : State), ∃ t, exec c s = .next t ∧ t.pending = s.pending

/-- A command off its occasion leaves the device as it is, and a well-timed one finds its occasion. That
an ill-timed command changes nothing is the model's choice (log 2): the spec has no such event. -/
def Obligations.OffOccasionIsStill : Prop :=
  ∀ (c : Instr) (s : State),
    (occasion c s = false → exec c s = .next s) ∧
      (wellTimed c s = true → (∀ b stop, c ≠ .characterReceived b stop) → occasion c s = true)

/-! ### Resets and the configuration load -/

/-- A full reset leaves every block at the values its chapter gives, whatever stood before (R18, R33, R54,
R73, R91, R109, R110, R134, R147, R151, R156, R169, R170); the MAINS level stands as the line reads.
Those the chapters do not give are the model's choice (log 25): the demand's sum, count, segments and
mean, the sums of I, V, S and of the instant-off interval with their counts, the mean current and
voltage, and the mark that DARK was seen. The dwell code, which nothing reads before the end of a load
sets it, is left open here (log 25). A reply in progress is cut off after the characters sent (R182), which
the environment brings (log 17). -/
def Obligations.FullResetClearsEveryBlock : Prop :=
  ∀ (sent : Nat) (s : State), ∃ t, exec (.fullReset sent) s = .next t ∧
    t.held = true ∧ t.load = .idle ∧ t.lines = .released ∧ t.bus = [] ∧ t.config = none ∧
    t.wire =
      (match s.service.reply with
      | some r => (r.lines.flatMap fun line => line ++ ['\r', '\n']).take sent
      | none => s.wire) ∧
    t.timer = { phase := 0, length := 25600, position := 0, window := .undecided } ∧
    t.keying =
      { dataBit := false, keyed := false, demandSum := 0, demandMs := 0, segments := [],
        meanDemand := none, badCount := 0, goodCount := 0, stage := false,
        voltageLimit := false } ∧
    t.front =
      { unbroken := false, whole := false, chipSamples := [], early := [], prompt := [], late := [],
        overrange := false, currentSum := 0, voltageSum := 0, onPotential := none,
        meanCurrent := none, meanVoltage := none, offSum := 0, offCount := 0, instantOff := none,
        supplySum := 0, supplyCount := 0, lastMeanS := none } ∧
    t.correlator =
      { selfSum := 0, selfCount := 0, gSelf := 0, gSelfValid := false, reversed := 0,
        xpSelf := none, residual := none, darkSeen := false, lanes := List.replicate 4 none,
        dwellCode := t.correlator.dwellCode, dwellSum := 0, dwellCount := 0, waiting := false,
        startCodes := [] } ∧
    t.table = { slots := List.replicate 8 none, errors := 0 } ∧
    t.frames = { ownFrame := none, cycleCount := 0, watches := List.replicate 4 none } ∧
    t.agreement = { lock := .unlocked, acquisition := 0, loss := 0, relock := 0 } ∧
    t.regulation =
      { setCurrent := none, staged := 0, resume := none, settle := false,
        beganRegulating := false, spacing := none, sampleSum := 0, sampleCount := 0,
        frameMean := none, floor := false, ilimit := false, vlimit := false, noself := false,
        noMeasure := 0 } ∧
    t.survey =
      { valid := false, generation := 0, kind := .none, phase := .over, count := 0,
        origination := none } ∧
    t.capture = { records := [], nextSequence := 0, drops := 0 } ∧
    t.supervisor =
      { condition := .starting, faultCause := none, working := false, hold := false,
        pendingHold := none, mains := s.supervisor.mains, warn := false, brownout := false,
        lowRun := 0, highRun := 0, solitary := 0, lastAligned := [], surveyRunning := false,
        alarms := Alarms.none } ∧
    t.service =
      { buffer := [], overlong := false, badCharacter := false, reply := none,
        pendingRestart := false } ∧
    t.pins = { demand := 0, offmark := false, alm := false, flt := false, txd := .high } ∧
    t.edge = none

/-- When a reset ends, the device starts in STARTING at phase and position 0 with its configuration
load waiting and the I2C lines released, every block at the values its chapter gives, and the MAINS level as
the line reads; those the chapters do not give are the model's choice, and the dwell code, which the load's
end sets, is left open here (log 25). After a restart the same holds but for the capture store, its next
sequence number and its drop count, which it keeps; so it differs from a full reset that has ended in these
alone (R18, R33, R54, R73, R91, R109, R110, R133, R134, R147, R151, R154, R156, R169, R170). -/
def Obligations.ResetEndAndRestartBegin : Prop :=
  (∀ (c : Instr) (capture : CaptureStore) (s : State),
    (c = .resetEnd ∧ s.held = true ∧
        capture = { records := [], nextSequence := 0, drops := 0 }) ∨
      (c = .deviceRestart ∧ s.held = false ∧ s.service.reply = none ∧
        s.service.pendingRestart = true ∧ capture = s.capture) →
    ∃ t, exec c s = .next t ∧ (s.service.reply = none → t.wire = s.wire) ∧
      t =
        { held := false
          load := .waiting
          lines := .released
          bus := []
          wire := t.wire
          config := none
          timer := { phase := 0, length := 25600, position := 0, window := .undecided }
          keying :=
            { dataBit := false, keyed := false, demandSum := 0, demandMs := 0, segments := [],
              meanDemand := none, badCount := 0, goodCount := 0, stage := false,
              voltageLimit := false }
          front :=
            { unbroken := false, whole := false, chipSamples := [], early := [], prompt := [],
              late := [], overrange := false, currentSum := 0, voltageSum := 0,
              onPotential := none, meanCurrent := none, meanVoltage := none, offSum := 0,
              offCount := 0, instantOff := none, supplySum := 0, supplyCount := 0,
              lastMeanS := none }
          correlator :=
            { selfSum := 0, selfCount := 0, gSelf := 0, gSelfValid := false, reversed := 0,
              xpSelf := none, residual := none, darkSeen := false, lanes := List.replicate 4 none,
              dwellCode := t.correlator.dwellCode, dwellSum := 0, dwellCount := 0,
              waiting := false, startCodes := [] }
          table := { slots := List.replicate 8 none, errors := 0 }
          frames := { ownFrame := none, cycleCount := 0, watches := List.replicate 4 none }
          agreement := { lock := .unlocked, acquisition := 0, loss := 0, relock := 0 }
          regulation :=
            { setCurrent := none, staged := 0, resume := none, settle := false,
              beganRegulating := false, spacing := none, sampleSum := 0, sampleCount := 0,
              frameMean := none, floor := false, ilimit := false, vlimit := false,
              noself := false, noMeasure := 0 }
          survey :=
            { valid := false, generation := 0, kind := .none, phase := .over, count := 0,
              origination := none }
          capture := capture
          supervisor :=
            { condition := .starting, faultCause := none, working := false, hold := false,
              pendingHold := none, mains := s.supervisor.mains, warn := false,
              brownout := false, lowRun := 0, highRun := 0, solitary := 0, lastAligned := [],
              surveyRunning := false, alarms := Alarms.none }
          service :=
            { buffer := [], overlong := false, badCharacter := false, reply := none,
              pendingRestart := false }
          pins := { demand := 0, offmark := false, alm := false, flt := false, txd := .high }
          edge := none
          freeCount := s.freeCount
          pending := s.pending }) ∧
  ∀ (sent : Nat) (s : State),
    s.held = false → s.service.reply = none → s.service.pendingRestart = true →
    ∃ a b t, exec (.fullReset sent) s = .next a ∧ exec .resetEnd a = .next b ∧
      exec .deviceRestart s = .next t ∧ t = { b with capture := s.capture }

/-- While a reset holds the device, nothing but the end of the reset, a full reset and a MAINS change
has an effect (R18, R33, R170). -/
def Obligations.HeldDeviceIsStill : Prop :=
  ∀ (c : Instr) (s : State), s.held = true → s.load = .idle → (∀ sent, c ≠ .fullReset sent) →
    c ≠ .resetEnd →
    (∀ present unit, c ≠ .mainsChange present unit) → exec c s = .next s

/-- The load's read begins after its wait, and a missing acknowledge, a bus conflict or the timeout
ends it in FAULT with cause CONFIG, the lines left as R156 states, after that much of the one transfer
of R154, which reads thirty bytes of device 0x50 from byte address 0 and acknowledges all but the
last (R154, R156, R181). That the actions are known when the load ends is the model's choice (log 19). -/
def Obligations.LoadEventsReadOrFail : Prop :=
  imageTransfer =
    [.start, .address 0x50 false, .byteAddress 0, .repeatedStart, .address 0x50 true] ++
      (List.range 30).map (fun n => .data n (n != 29)) ++ [.stop] ∧
  (∀ s : State, s.load = .waiting →
    exec .configLoadStart s = .next { s with load := .reading, lines := .transfer }) ∧
  ∀ (c : Instr) (lines : I2cLines) (bus : List BusAction) (s : State),
    s.held = false → s.supervisor.faultCause = none →
    ((s.load = .reading ∧ lines = .stopped ∧
        ((c = .loadNack 1 ∧ bus = imageTransfer.take 2 ++ [.stop]) ∨
          (c = .loadNack 2 ∧ bus = imageTransfer.take 3 ++ [.stop]) ∨
          (c = .loadNack 3 ∧ bus = imageTransfer.take 5 ++ [.stop]))) ∨
      (∃ n, (c = .loadBusConflict n ∨ c = .loadTimeout n) ∧ s.load = .reading ∧
        lines = .released ∧ bus = imageTransfer.take n) ∨
      (∃ n, c = .loadTimeout n ∧ s.load = .waiting ∧ lines = .released ∧ bus = [])) →
    ∃ t, exec c s = .next t ∧ t.load = .ended ∧ t.lines = lines ∧ t.bus = bus ∧
      t.supervisor.condition = .fault ∧ t.supervisor.faultCause = some .config ∧
      t.pins.flt = true ∧ t.pins.demand = 0 ∧ t.config = s.config ∧ t.table = s.table ∧
      t.regulation = s.regulation ∧ t.survey = s.survey ∧ t.capture = s.capture ∧
      t.service = s.service ∧ t.frames = s.frames ∧ t.agreement = s.agreement

/-- The checks of R155 with the ranges of R181, on the bytes as R179 reads them, and the configuration's
fields in working units from the bytes at R181's positions: two-byte fields most significant byte first, T
and F in two's complement. That an image of any other length than thirty bytes is refused is the model's
choice (log 24). -/
def Obligations.ImageChecks : Prop :=
  ∀ (image : List Byte) (c : Settings) (b w : Nat → Nat) (signed : Nat → Int),
    b = (fun n => (image.getD n 0).toNat) → w = (fun n => 256 * b n + b (n + 1)) →
    signed = (fun n => if w n < 32768 then (w n : Int) else (w n : Int) - 65536) →
    c = settingsOf image →
    c =
      { ownCode := b 1, target := 10 * signed 2, floor := 10 * signed 4, iMax := w 6, iMin := w 8
        iStart := w 10, vMax := w 12, stepLimit := b 14, gain := b 15, deadBand := 10 * b 16
        spacing := b 17, settle := b 18, depth := b 19, windowLength := c.windowLength
        sampleDelay := b 21, strayLimit := 10 * w 22, order := c.order, gDetect := w 25
        refresh := b 27, warnLevel := 10 * b 28 } ∧
    (b 20 ≤ 3 → c.windowLength = 100 + 50 * b 20) ∧
    (b 24 = 0 → c.order = .sequential) ∧ (b 24 = 1 → c.order = .scrambled) ∧
    (imageAccepted image = true ↔
      image.length = 30 ∧ b 0 = 0xC7 ∧ (image.map BitVec.toNat).sum % 256 = 0 ∧
        1 ≤ c.ownCode ∧ c.ownCode ≤ 63 ∧
        -20000 ≤ c.target ∧ c.target ≤ -5000 ∧
        -25000 ≤ c.floor ∧ c.floor ≤ c.target - 500 ∧
        50 ≤ c.iMax ∧ c.iMax ≤ 6000 - c.depth ∧
        (c.depth : Int) ≤ c.iMin ∧ c.iMin ≤ c.iMax ∧ c.iMin ≤ c.iStart ∧ c.iStart ≤ c.iMax ∧
        50 ≤ c.vMax ∧ c.vMax ≤ 600 ∧ 1 ≤ c.stepLimit ∧ c.stepLimit ≤ 255 ∧
        1 ≤ c.gain ∧ c.gain ≤ 8 ∧ 0 ≤ c.deadBand ∧ c.deadBand ≤ 500 ∧
        1 ≤ c.spacing ∧ c.spacing ≤ 64 ∧ c.settle ≤ 16 ∧ 10 ≤ c.depth ∧ c.depth ≤ 200 ∧
        b 20 ≤ 3 ∧ 10 ≤ c.sampleDelay ∧ c.sampleDelay + 10 ≤ c.windowLength ∧
        200 ≤ c.strayLimit ∧ c.strayLimit ≤ 5000 ∧ b 24 ≤ 1 ∧
        5 ≤ c.gDetect ∧ c.gDetect ≤ 500 ∧ 16 ≤ c.refresh ∧ c.refresh ≤ 255 ∧
        1000 ≤ c.warnLevel ∧ c.warnLevel ≤ 1350)

/-- An accepted image becomes the configuration, with the set current I_start, the first dwell on the
own code plus one and the first own frame; regulation, the correlator and the survey record begin from
their reset values, the supply monitor with both flags clear and both runs 0, and the alarms and the other
facts stand (R50, R54, R93, R110, R133, R155). A refused one gives FAULT with cause CONFIG and no
configuration, and no block begins (R155, R166). The time moves to the load end's timer unit, and the demand
in force until then is noted with its span (R15, log 11). From STARTING, sampling starts at the next whole
millisecond in a cycle that stays not complete (R28), DARK counts as a moment of it (R46), and it is not
keyed throughout (R14). -/
def Obligations.LoadEndAcceptsOrRefuses : Prop :=
  ∀ (image : List Byte) (unit : Nat) (s : State),
    s.held = false → s.load = .reading → s.config = none → s.supervisor.faultCause = none →
    s.supervisor.working = false →
    ∃ t, exec (.configLoadEnd image unit) s = .next t ∧ t.load = .ended ∧ t.lines = .stopped ∧
      t.bus = imageTransfer ∧
      t = { s with
            load := t.load, lines := t.lines, bus := t.bus, config := t.config, timer := t.timer,
            keying := t.keying, front := t.front, correlator := t.correlator,
            frames := t.frames, regulation := t.regulation, survey := t.survey,
            supervisor := t.supervisor, pins := t.pins, edge := t.edge } ∧
      t.timer = { s.timer with phase := t.timer.phase, window := t.timer.window } ∧
      t.timer.phase = max s.timer.phase (min s.timer.length (20 * s.ms + min unit 19)) ∧
      t.edge = (if t.timer.phase = s.timer.phase then s.edge else none) ∧
      t.keying =
        { s.keying with
          keyed := t.keying.keyed
          segments :=
            if t.timer.phase = s.timer.phase then s.keying.segments
            else s.keying.segments ++ [(s.pins.demand, t.timer.phase - s.timer.phase)] } ∧
      (s.keying.keyed = false → s.edge = none → t.keying.keyed = false) ∧
      (s.supervisor.condition = .starting → s.front.unbroken = false →
        s.timer.window ≠ .opened →
        t.timer.window = s.timer.window ∧
        t.front =
          { s.front with
            whole := imageAccepted image && decide (t.timer.phase % 20 = 0) }) ∧
      if imageAccepted image then
        t.config = some (settingsOf image) ∧
        t.supervisor =
          { s.supervisor with
            condition := if s.supervisor.mains then .acquiring else .dark
            warn := false, brownout := false, lowRun := 0, highRun := 0
            solitary := t.supervisor.solitary } ∧
        (s.supervisor.solitary = 0 → t.supervisor.solitary = 0) ∧
        t.regulation =
          { setCurrent := some (settingsOf image).iStart, staged := 0, resume := none,
            settle := false, beganRegulating := false, spacing := none, sampleSum := 0,
            sampleCount := 0, frameMean := none, floor := false, ilimit := false,
            vlimit := false, noself := false, noMeasure := 0 } ∧
        t.survey =
          { valid := false, generation := 0, kind := .none, phase := .over, count := 0,
            origination := none } ∧
        t.frames =
          { s.frames with
            ownFrame := some (buildFrame .acquiring 0 State.reset.survey false false) } ∧
        t.correlator =
          { selfSum := 0, selfCount := 0, gSelf := 0, gSelfValid := false, reversed := 0,
            xpSelf := none, residual := none, darkSeen := t.correlator.darkSeen,
            lanes := List.replicate 4 none,
            dwellCode :=
              if (settingsOf image).ownCode = 63 then 1 else (settingsOf image).ownCode + 1
            dwellSum := 0, dwellCount := 0, waiting := false, startCodes := [] } ∧
        (s.supervisor.condition = .starting →
          t.correlator.darkSeen = (s.correlator.darkSeen || !s.supervisor.mains))
      else
        t.config = none ∧
        t.supervisor =
          { s.supervisor with condition := .fault, faultCause := some .config } ∧
        t.pins.flt = true ∧ t.pins.demand = 0 ∧ t.regulation = s.regulation ∧
        t.frames = s.frames ∧ t.correlator = s.correlator ∧ t.survey = s.survey

/-! ### The cycle: samples, keying span, OFF window -/

/-- SAMPLE ends its millisecond: the time moves to its end, S is counted saturated, a P sample at or
beyond an end of its range marks the cycle overrange while P is sampled, and the blocks that take
nothing at a sample stand (R19 to R21). In a cycle sampled without a break the keying span's I and V
samples are summed saturated (R26), and the eight P samples from ms 970 + D on of an open window make
the instant-off sample, tagged with the condition at their end (R24); no other sample does. A
millisecond of the keying span counts with the demand in force for the greater part of its 20 units, at
a tie the later (R15; among three or more demands, log 11); the tail counts none. Of the front end the rest
stands: whether the cycle is unbroken, the values of the keying span's end, the last mean S, and, where no
P sample of the keying span counts, the chip values, which O11 gives otherwise (R22); the next millisecond
is whole where the condition samples (R28). The supply runs are O20's (R164, R165). -/
def Obligations.SampleEndsMillisecond : Prop :=
  ∀ (p i v u : Int) (s : State), s.held = false → 20 * (s.ms + 1) ≤ s.timer.length →
    ∃ t, exec (.sample p i v u) s = .next t ∧
      t.timer = { s.timer with phase := 20 * (s.ms + 1) } ∧ t.edge = none ∧
      t = { s with
            timer := t.timer, keying := t.keying, front := t.front, supervisor := t.supervisor,
            pins := t.pins, edge := none } ∧
      t.supervisor =
        { s.supervisor with
          lowRun := t.supervisor.lowRun, highRun := t.supervisor.highRun } ∧
      t.keying =
        { s.keying with
          demandSum := t.keying.demandSum, demandMs := t.keying.demandMs, segments := [] } ∧
      t.front =
        { s.front with
          whole :=
            decide (s.supervisor.condition ∈
              [Condition.acquiring, Condition.regulating, Condition.holding, Condition.survey,
                Condition.dark])
          chipSamples := t.front.chipSamples, early := t.front.early, prompt := t.front.prompt,
          late := t.front.late, overrange := t.front.overrange,
          currentSum := t.front.currentSum, voltageSum := t.front.voltageSum,
          offSum := t.front.offSum, offCount := t.front.offCount,
          instantOff := t.front.instantOff, supplySum := t.front.supplySum,
          supplyCount := t.front.supplyCount } ∧
      (960 ≤ s.ms ∨ s.front.whole = false ∨ s.front.unbroken = false ∨ s.config = none →
        t.front.chipSamples = s.front.chipSamples ∧ t.front.early = s.front.early ∧
        t.front.prompt = s.front.prompt ∧ t.front.late = s.front.late) ∧
      (960 ≤ s.ms →
        t.keying.demandSum = s.keying.demandSum ∧ t.keying.demandMs = s.keying.demandMs) ∧
      (∀ (parts : List (Int × Nat)) (units : Int → Nat), s.ms < 960 →
        parts = s.keying.segments ++ [(s.pins.demand, 20 - s.timer.phase % 20)] →
        units = (fun x => ((parts.filter fun g => g.1 = x).map Prod.snd).sum) →
        t.keying.demandMs = s.keying.demandMs + 1 ∧
        ∃ d, t.keying.demandSum = s.keying.demandSum + d ∧ d ∈ parts.map Prod.fst ∧
          ∀ (j : Nat) (x : Int) (n : Nat), parts[j]? = some (x, n) →
            units x ≤ units d ∧
              (units x = units d → ∃ (k : Nat) (m : Nat), j ≤ k ∧ parts[k]? = some (d, m))) ∧
      (s.ms < 1280 →
        (t.front.supplySum : Int) = s.front.supplySum + max 0 (min 2000 u) ∧
        t.front.supplyCount = s.front.supplyCount + 1) ∧
      (1280 ≤ s.ms →
        t.front.supplySum = s.front.supplySum ∧ t.front.supplyCount = s.front.supplyCount ∧
        t.front.overrange = s.front.overrange) ∧
      (s.ms < 1280 → s.front.whole = true → s.config.isSome = true →
        t.front.overrange =
          (s.front.overrange || decide (p ≤ -40000) || decide (10000 ≤ p))) ∧
      (s.front.whole = false ∨ s.config = none → t.front.overrange = s.front.overrange) ∧
      (s.ms < 960 → s.front.whole = true → s.front.unbroken = true → s.config.isSome = true →
        (t.front.currentSum : Int) = s.front.currentSum + max 0 (min 65000 i) ∧
        (t.front.voltageSum : Int) = s.front.voltageSum + max 0 (min 1000 v)) ∧
      (960 ≤ s.ms ∨ s.front.whole = false ∨ s.front.unbroken = false ∨ s.config = none →
        t.front.currentSum = s.front.currentSum ∧ t.front.voltageSum = s.front.voltageSum) ∧
      (∀ c, s.config = some c → s.front.whole = true → s.front.unbroken = true → s.ms < 1280 →
        s.timer.window = .opened →
        (970 + c.sampleDelay ≤ s.ms → s.ms < 970 + c.sampleDelay + 7 →
          t.front.offSum = s.front.offSum + max (-40000) (min 10000 p) ∧
          t.front.offCount = s.front.offCount + 1 ∧
          t.front.instantOff = s.front.instantOff) ∧
        (s.ms = 970 + c.sampleDelay + 7 →
          t.front.offSum = 0 ∧ t.front.offCount = 0 ∧
          t.front.instantOff =
            (if s.front.offCount = 7 then
              some
                { value := roundDiv (s.front.offSum + max (-40000) (min 10000 p)) 8
                  tag := s.supervisor.condition }
             else none)) ∧
        (s.ms < 970 + c.sampleDelay ∨ 970 + c.sampleDelay + 7 < s.ms →
          t.front.offSum = s.front.offSum ∧ t.front.offCount = s.front.offCount ∧
          t.front.instantOff = s.front.instantOff)) ∧
      (s.timer.window ≠ .opened ∨ s.front.whole = false ∨ s.front.unbroken = false ∨
          s.config = none →
        t.front.offSum = s.front.offSum ∧ t.front.offCount = s.front.offCount ∧
        t.front.instantOff = s.front.instantOff)

/-- The three chip values of a position are the rounded means of its samples 0..8, 3..11 and 6..14,
each formed when its last sample completes; the first sample of a position begins its run afresh (R22). -/
def Obligations.ChipValuesAreNineSampleMeans : Prop :=
  ∀ (p i v u : Int) (c : Settings) (s : State),
    s.held = false → s.ms < 960 → 20 * (s.ms + 1) ≤ s.timer.length → s.config = some c →
    s.front.whole = true → s.front.unbroken = true →
    (s.ms % 15 = 0 ∨ s.front.chipSamples.length = s.ms % 15) →
    ∃ t, exec (.sample p i v u) s = .next t ∧
      let xs :=
        (if s.ms % 15 = 0 then [] else s.front.chipSamples) ++ [max (-40000) (min 10000 p)]
      (s.ms % 15 = 8 → t.front.early = s.front.early ++ [roundDiv xs.sum 9]) ∧
      (s.ms % 15 ≠ 8 → t.front.early = s.front.early) ∧
      (s.ms % 15 = 11 → t.front.prompt = s.front.prompt ++ [roundDiv (xs.drop 3).sum 9]) ∧
      (s.ms % 15 ≠ 11 → t.front.prompt = s.front.prompt) ∧
      (s.ms % 15 = 14 → t.front.late = s.front.late ++ [roundDiv (xs.drop 6).sum 9]) ∧
      (s.ms % 15 ≠ 14 → t.front.late = s.front.late) ∧
      t.front.chipSamples = xs

/-- `roundDiv` rounds to nearest with ties away from zero (00, Rounding). -/
def Obligations.RoundsToNearestTiesAway : Prop :=
  ∀ (a : Int) (b : Nat), 0 < b →
    2 * (a - b * roundDiv a b).natAbs ≤ b ∧
      (2 * (a - b * roundDiv a b).natAbs = b → a.natAbs < b * (roundDiv a b).natAbs)

/-- At the end of ms 959 the cycle's results are formed where it was sampled without a break, and the
mean demand where every millisecond was counted (R15, R23, R26, R37, R38); that none is formed where a
SAMPLE of the keying span was left out is the model's choice (log 3). XP_self is the sum of the
64 prompt values by the own code's chips, and the residual test finds the cycle disturbed exactly
when two of the 64 residuals lie further apart than the stray limit (R36, R38). -/
def Obligations.KeyingSpanEndForms : Prop :=
  ∀ (c : Settings) (s : State),
    s.held = false → s.timer.phase = 19200 → s.config = some c →
    ∃ t, exec .keyingSpanEnd s = .next t ∧
      t = { s with
            keying := t.keying, front := t.front, correlator := t.correlator, pins := t.pins } ∧
      t.keying = { s.keying with meanDemand := t.keying.meanDemand } ∧
      t.keying.meanDemand =
        (if s.keying.demandMs = 960 then some (roundDiv s.keying.demandSum 960) else none) ∧
      (s.front.unbroken = true →
        t.front =
          { s.front with
            onPotential := some (roundMean s.front.prompt)
            meanCurrent := some (roundDiv s.front.currentSum 960).toNat
            meanVoltage := some (roundDiv s.front.voltageSum 960).toNat } ∧
        ∃ xp disturbed,
          t.correlator = { s.correlator with xpSelf := some xp, residual := some disturbed } ∧
          xp = corrSum c.order s.timer.position c.ownCode s.front.prompt ∧
          disturbed = residualTest c s.timer.position xp s.front.prompt ∧
          (s.front.prompt.length = 64 →
            xp =
              ((List.range 64).map fun p =>
                chip c.ownCode (chipIndex c.order s.timer.position p) *
                  s.front.prompt.getD p 0).sum ∧
            ∀ r : Nat → Int,
              (∀ p, r p =
                s.front.prompt.getD p 0 -
                  roundDiv (xp * chip c.ownCode (chipIndex c.order s.timer.position p)) 64) →
              (disturbed = true ↔ ∃ p < 64, ∃ q < 64, c.strayLimit < r p - r q))) ∧
      (s.front.unbroken = false → t.front = s.front ∧ t.correlator = s.correlator)

/-- At ms 970 a window opens in a condition with output, in the first cycle of an epoch or while an
INTERRUPT survey runs; OFFMARK shows it and the demand is then 0 (R5 to R7). -/
def Obligations.OffWindowDecided : Prop :=
  ∀ s : State, s.held = false → s.timer.phase = 19400 → s.timer.window = .undecided →
    ∃ t, exec .offWindowDecision s = .next t ∧
      t = { s with timer := t.timer, pins := t.pins } ∧
      t.timer = { s.timer with window := t.timer.window } ∧
      (t.timer.window = .opened ∨ t.timer.window = .absent) ∧
      (t.timer.window = .opened ↔
        s.supervisor.condition ∈
            [Condition.acquiring, Condition.regulating, Condition.holding, Condition.survey] ∧
          (s.timer.position % 8 = 0 ∨
            (s.survey.valid = true ∧ s.survey.phase = .running ∧ s.survey.kind = .interrupt))) ∧
      t.pins.offmark = decide (t.timer.window = .opened) ∧
      (t.timer.window = .opened → t.pins.demand = 0)

/-- A full window ends with OFFMARK low. While an INTERRUPT survey runs and the cycle was sampled
without a break, the capture is appended with the next sequence number, or dropped at a full store,
which latches CAPDROP; otherwise the store stands (R30, R148). -/
def Obligations.WindowEndCaptures : Prop :=
  ∀ (c : Settings) (s : State),
    s.held = false → s.config = some c → s.timer.window = .opened →
    s.timer.phase = 20 * (970 + c.windowLength) →
    ∃ t, exec .offWindowEnd s = .next t ∧
      t = { s with
            timer := { s.timer with window := .full }, capture := t.capture,
            supervisor := t.supervisor, pins := t.pins } ∧
      t.pins.offmark = false ∧
      (s.front.unbroken = false ∨ s.survey.runs .interrupt = false →
        t.capture = s.capture ∧ t.supervisor = s.supervisor) ∧
      ∀ on current residual, s.front.unbroken = true → s.survey.runs .interrupt = true →
        s.front.onPotential = some on → s.front.meanCurrent = some current →
        s.correlator.residual = some residual →
        t.capture.nextSequence = (s.capture.nextSequence + 1) % 65536 ∧
        (s.capture.records.length < 512 →
          t.capture.drops = s.capture.drops ∧ t.supervisor = s.supervisor ∧
          t.capture.records = s.capture.records ++
            [{ sequence := s.capture.nextSequence
               generation := s.survey.generation
               position := s.timer.position
               instantOff :=
                 if s.front.overrange || residual then none
                 else s.front.instantOff.map InstantOff.value
               onPotential := on
               meanCurrent := current
               disturbed := residual || s.front.overrange
               overrange := s.front.overrange }]) ∧
        (512 ≤ s.capture.records.length →
          t.capture.records = s.capture.records ∧
          t.capture.drops = min 65535 (s.capture.drops + 1) ∧
          t.supervisor =
            { s.supervisor with alarms := { s.supervisor.alarms with capdrop := true } } ∧
          t.pins.alm = true)

/-! ### The cycle end -/

/-- CYCLE_END starts the next cycle at phase 0 with a length within 30 units of nominal, presents its three
facts, and moves the frame position on by one, or to 0 at a realignment, which makes a forced boundary (R1
to R3, R76, R84). The new cycle keys the own frame's place and begins keyed where there is output (R10, R14,
R96). In a table of its form every good entry takes its open lane's result, and every lane's watch follows
it (R43, R59, R84, R97, R102, R103), frames being decoded only in a condition that samples and outside the
relock span (R82, R86, R146, log 14); half the weighted error makes the length (R75, R76); and the station
realigns exactly where an entry's outcome says so, R86's own condition being the one held where no lock can
be lost at this cycle end (log 8). For the same instant there stand the dwell end, the codes whose frames
and aligned frames were accepted, the mean S and the codes of the ended cycle's start (R27, R51 to R53,
R105, R106); the new cycle has its lanes' codes and the table's (R34, R52, R68). The new cycle begins with
the front end cleared, unbroken where the condition samples, the mean S handed over standing as the last one
(R27 to R29, R33), the mean current and voltage absent by the model's choice (log 40); with no demand
counted yet (R15), no XP_self and no residual result (R37), and DARK noted where it holds (R46). The alarms
but STAGE, SUPPLY and TABLE stand. -/
def Obligations.CycleEndTurnsTimer : Prop :=
  ∀ (inputs : CycleInputs) (s : State), s.held = false → s.timer.position < 32 →
    ∃ t g, exec (.cycleEnd inputs) s = .next t ∧ t.edge = some g ∧
      t.timer.phase = 0 ∧ 25570 ≤ t.timer.length ∧ t.timer.length ≤ 25630 ∧
      t.timer.window = .undecided ∧
      g.ended = s.timer.position ∧ g.started = t.timer.position ∧
      (s.timer.position = 31 → g.boundary = some .ordinary ∧ t.timer.position = 0) ∧
      (s.timer.position ≠ 31 →
        (g.boundary = none ∧ t.timer.position = s.timer.position + 1) ∨
          (g.boundary = some .forced ∧ t.timer.position = 0)) ∧
      t.frames.cycleCount = (s.frames.cycleCount + 1) % 65536 ∧
      t.frames.ownFrame = s.frames.ownFrame ∧
      t.keying.dataBit =
        (s.frames.ownFrame.map fun f => f.getD t.timer.position false).getD false ∧
      t.keying.keyed = t.supervisor.condition.output ∧
      t.keying =
        { s.keying with
          dataBit := t.keying.dataBit, keyed := t.keying.keyed, demandSum := 0, demandMs := 0,
          segments := [], meanDemand := none, badCount := t.keying.badCount,
          goodCount := t.keying.goodCount, stage := t.keying.stage,
          voltageLimit := t.keying.voltageLimit } ∧
      (∃ samples, samples =
          decide (t.supervisor.condition ∈
            [Condition.acquiring, Condition.regulating, Condition.holding, Condition.survey,
              Condition.dark]) ∧
        t.front =
          { unbroken := samples, whole := samples, chipSamples := [], early := [], prompt := [],
            late := [], overrange := false, currentSum := 0, voltageSum := 0,
            onPotential := none, meanCurrent := none, meanVoltage := none, offSum := 0,
            offCount := 0, instantOff := none, supplySum := 0, supplyCount := 0,
            lastMeanS := g.meanS.or s.front.lastMeanS }) ∧
      t.correlator =
        { s.correlator with
          selfSum := t.correlator.selfSum, selfCount := t.correlator.selfCount, xpSelf := none,
          residual := none, darkSeen := decide (t.supervisor.condition = .dark),
          lanes := t.correlator.lanes, dwellSum := t.correlator.dwellSum,
          dwellCount := t.correlator.dwellCount, waiting := t.correlator.waiting,
          startCodes := t.correlator.startCodes } ∧
      t.supervisor =
        { s.supervisor with
          condition := t.supervisor.condition, working := t.supervisor.working,
          warn := t.supervisor.warn, solitary := t.supervisor.solitary,
          alarms :=
            { s.supervisor.alarms with
              stage := t.supervisor.alarms.stage, supply := t.supervisor.alarms.supply,
              table := t.supervisor.alarms.table } } ∧
      t.regulation =
        { s.regulation with
          sampleSum := t.regulation.sampleSum, sampleCount := t.regulation.sampleCount } ∧
      t.held = s.held ∧ t.load = s.load ∧ t.lines = s.lines ∧ t.bus = s.bus ∧
      t.wire = s.wire ∧ t.config = s.config ∧ t.survey = s.survey ∧ t.capture = s.capture ∧
      t.service = s.service ∧
      ((∀ e ∈ entriesOf s.table.slots, e.offset = none) → g.boundary ≠ some .forced) ∧
      (g.dwellDue = true ↔
        s.config.isSome = true ∧ s.correlator.waiting = false ∧
          (s.timer.position % 8 = 7 ∨ g.boundary = some .forced)) ∧
      g.offer = none ∧ g.endedCodes = s.correlator.startCodes ∧
      g.meanS =
        (if s.front.supplyCount = 0 then none
         else some (roundDiv s.front.supplySum s.front.supplyCount).toNat) ∧
      t.correlator.startCodes = codesOf t.table.slots ∧ t.correlator.lanes.length = 4 ∧
      (∀ own, SlotsOk own s.table.slots → ∀ lane w, 1 ≤ lane → lane ≤ 4 →
        (t.correlator.lanes[lane - 1]? = some (some w) ↔
          ∃ e ∈ entriesOf t.table.slots, e.code = w ∧ e.lane = some lane)) ∧
      (s.config = none → g.accepted = [] ∧ g.aligned = []) ∧
      ∀ (c : Settings) (usable : Bool) (result : Nat → LaneResult)
        (outcome : Entry → EntryOutcome), s.config = some c →
        usable = (decide (min (s.timer.length / 20) 1280 ≤ s.ms) && cycleUsable s) →
        result =
          laneResult c s.timer.position usable s.front.early s.front.prompt s.front.late →
        outcome = (fun e =>
          entryAtCycleEnd c s.supervisor.condition
            (s.supervisor.condition.samples && decide (s.agreement.relock = 0))
            s.timer.position t.frames.cycleCount
            (e.lane.bind fun lane => s.frames.watches.getD (lane - 1) none) (result e.code) e) →
        (SlotsOk c.ownCode s.table.slots →
          ∀ k e, s.table.slots[k]? = some (some e) → e.parityGood = true → k ∉ inputs.ended →
          k ∉ inputs.started →
          (some e.code ∈ s.correlator.lanes →
            t.table.slots[k]? = some (some ((outcome e).entry.dropStale t.frames.cycleCount))) ∧
          (some e.code ∉ s.correlator.lanes →
            t.table.slots[k]? = some (some (e.dropStale t.frames.cycleCount))) ∧
          (s.frames.watches.length = 4 → ∀ lane, e.lane = some lane →
            t.frames.watches[lane - 1]? =
              if some e.code ∈ s.correlator.lanes then some (outcome e).watch
              else s.frames.watches[lane - 1]?)) ∧
        (∀ w,
          (w ∈ g.accepted ↔
            ∃ k e, s.table.slots[k]? = some (some e) ∧ e.parityGood = true ∧
              k ∉ inputs.ended ∧ some e.code ∈ s.correlator.lanes ∧ e.code = w ∧
              (outcome e).accepted = true) ∧
          (w ∈ g.aligned ↔
            ∃ k e, s.table.slots[k]? = some (some e) ∧ e.parityGood = true ∧
              k ∉ inputs.ended ∧ some e.code ∈ s.correlator.lanes ∧ e.code = w ∧
              (outcome e).aligned = true)) ∧
        (inputs.ended = [] → (∀ e ∈ entriesOf s.table.slots, e.parityGood = true) →
          (t.timer.length : Int) =
            25600 + adjustmentOf (weightedError
              ((s.correlator.lanes.filterMap id).filterMap fun w =>
                if w ∈ codesOf s.table.slots then (result w).timing else none))) ∧
        (s.timer.position ≠ 31 → (s.agreement.lock = .locked → s.agreement.loss ≠ 15) →
          (g.boundary = some .forced ↔
            ∃ k e, s.table.slots[k]? = some (some e) ∧ e.parityGood = true ∧
              k ∉ inputs.ended ∧ some e.code ∈ s.correlator.lanes ∧
              (outcome e).realigns = true))

/-- At the end of a cycle that was not sampled without a break, the output drive, the self lane, the
search lane and regulation keep what they hold, the next cycle has the nominal length, and no
instant-off sample, ON potential or overrange mark is left (R2, R28, R29, R43). -/
def Obligations.BrokenCycleHandsNothing : Prop :=
  ∀ (inputs : CycleInputs) (s : State), s.held = false → s.front.unbroken = false →
    ∃ t, exec (.cycleEnd inputs) s = .next t ∧ t.timer.length = 25600 ∧
      t.keying.badCount = s.keying.badCount ∧ t.keying.goodCount = s.keying.goodCount ∧
      t.keying.stage = s.keying.stage ∧ t.keying.voltageLimit = s.keying.voltageLimit ∧
      t.correlator.selfSum = s.correlator.selfSum ∧
      t.correlator.selfCount = s.correlator.selfCount ∧
      t.correlator.dwellSum = s.correlator.dwellSum ∧
      t.correlator.dwellCount = s.correlator.dwellCount ∧
      t.correlator.waiting = s.correlator.waiting ∧
      t.regulation = s.regulation ∧ t.agreement.relock = s.agreement.relock ∧
      t.front.onPotential = none ∧ t.front.instantOff = none ∧ t.front.overrange = false

/-- A complete cycle whose samples all completed. Undisturbed and outside the relock span, it adds its
search figure to the dwell and, keyed throughout with no moment of DARK, its signed self figure;
disturbed, by the residual test or overrange, or in the relock span, it adds neither and calls for no
adjustment (R39, R45 to R47, R50). It takes one cycle from the relock span, whose last ends the search
lane's wait (R53, R81). Its instant-off sample counts for regulation exactly where the cycle is
undisturbed, past the settle inhibit, and the sample tagged REGULATING (R114). -/
def Obligations.CompleteCycleGathers : Prop :=
  ∀ (c : Settings) (x : Int) (disturbed : Bool) (inputs : CycleInputs) (s : State),
    s.held = false → s.config = some c → min (s.timer.length / 20) 1280 ≤ s.ms →
    s.front.unbroken = true → s.correlator.xpSelf = some x →
    s.correlator.residual = some disturbed →
    ∃ t, exec (.cycleEnd inputs) s = .next t ∧
      (disturbed = false → s.front.overrange = false → s.agreement.relock = 0 →
        t.correlator.dwellCount = s.correlator.dwellCount + 1 ∧
        t.correlator.dwellSum = s.correlator.dwellSum +
          influence c.depth
            (corrSum c.order s.timer.position s.correlator.dwellCode s.front.prompt) ∧
        (s.keying.keyed = true ∧ s.correlator.darkSeen = false →
          t.correlator.selfCount = s.correlator.selfCount + 1 ∧
          t.correlator.selfSum =
            s.correlator.selfSum + selfFigure c.depth x s.keying.dataBit) ∧
        (s.keying.keyed = false ∨ s.correlator.darkSeen = true →
          t.correlator.selfCount = s.correlator.selfCount ∧
          t.correlator.selfSum = s.correlator.selfSum)) ∧
      (disturbed = true ∨ s.front.overrange = true ∨ 0 < s.agreement.relock →
        t.timer.length = 25600 ∧ t.correlator.dwellCount = s.correlator.dwellCount ∧
        t.correlator.dwellSum = s.correlator.dwellSum ∧
        t.correlator.selfSum = s.correlator.selfSum ∧
        t.correlator.selfCount = s.correlator.selfCount) ∧
      t.agreement.relock = s.agreement.relock - 1 ∧
      t.correlator.waiting = (s.correlator.waiting && decide (s.agreement.relock ≠ 1)) ∧
      (∀ o, s.front.instantOff = some o → disturbed = false → s.front.overrange = false →
        (s.regulation.settle = false ∨ c.settle ≤ s.timer.position) → o.tag = .regulating →
        t.regulation =
          { s.regulation with
            sampleSum := s.regulation.sampleSum + o.value
            sampleCount := s.regulation.sampleCount + 1 }) ∧
      (s.front.instantOff = none ∨ disturbed = true ∨ s.front.overrange = true ∨
          (s.regulation.settle = true ∧ s.timer.position < c.settle) ∨
          (∃ o, s.front.instantOff = some o ∧ o.tag ≠ .regulating) →
        t.regulation = s.regulation)

/-- The STAGE comparison of a complete cycle by the table of R16, and its latch; and the voltage-limit
flag, set where the mean voltage is at least V_max and clear otherwise (R17). -/
def Obligations.StageComparison : Prop :=
  ∀ (c : Settings) (current : Nat) (demand : Int) (inputs : CycleInputs) (s : State),
    s.held = false → s.config = some c → min (s.timer.length / 20) 1280 ≤ s.ms →
    s.front.unbroken = true → s.correlator.xpSelf.isSome = true →
    s.correlator.residual.isSome = true → s.front.meanCurrent = some current →
    s.keying.meanDemand = some demand →
    ∃ t, exec (.cycleEnd inputs) s = .next t ∧
      let bad := demand + 1000 < 5 * |(current : Int) - demand|
      (s.keying.stage = false → bad → s.keying.badCount + 1 < 4 →
        t.keying.stage = false ∧ t.keying.badCount = s.keying.badCount + 1 ∧
          t.keying.goodCount = 0) ∧
      (s.keying.stage = false → bad → s.keying.badCount + 1 = 4 →
        t.keying.stage = true ∧ t.keying.badCount = 0 ∧ t.supervisor.alarms.stage = true ∧
          t.pins.alm = true) ∧
      (s.keying.stage = false → ¬bad →
        t.keying.stage = false ∧ t.keying.badCount = 0 ∧
          t.supervisor.alarms.stage = s.supervisor.alarms.stage) ∧
      (s.keying.stage = true → bad → t.keying.stage = true ∧ t.keying.goodCount = 0) ∧
      (s.keying.stage = true → ¬bad → s.keying.goodCount + 1 < 4 →
        t.keying.stage = true ∧ t.keying.badCount = 0 ∧
          t.keying.goodCount = s.keying.goodCount + 1) ∧
      (s.keying.stage = true → ¬bad → s.keying.goodCount + 1 = 4 →
        t.keying.stage = false ∧ t.keying.goodCount = 0 ∧
          t.supervisor.alarms.stage = s.supervisor.alarms.stage) ∧
      ∀ voltage, s.front.meanVoltage = some voltage →
        t.keying.voltageLimit = decide (c.vMax ≤ voltage)

/-- The supply monitor: a run counts consecutive samples on its side of its level, returns to 0 at
another and stays at 100; at the cycle end the mean S stands as the last one, and the warn flag
follows it with its 0.30 V of hysteresis, latching SUPPLY when it becomes set (R27, R163 to R165). The
warn test is made at the cycle end, or, where the environment takes a boundary of the same instant first
(R161), by that boundary once its own work is done; it comes before a BROWNOUT entry of the instant by the
model's choice (log 36). -/
def Obligations.SupplyIsMonitored : Prop :=
  (∀ (p i v u : Int) (s : State),
    s.held = false → s.config.isSome = true → s.ms < 1280 → 20 * (s.ms + 1) ≤ s.timer.length →
    ∃ t, exec (.sample p i v u) s = .next t ∧
      (s.supervisor.brownout = false →
        t.supervisor.highRun = s.supervisor.highRun ∧
        t.supervisor.lowRun = if u < 900 then min 100 (s.supervisor.lowRun + 1) else 0) ∧
      (s.supervisor.brownout = true →
        t.supervisor.lowRun = s.supervisor.lowRun ∧
        t.supervisor.highRun = if 950 ≤ u then min 100 (s.supervisor.highRun + 1) else 0)) ∧
  (∀ (inputs : CycleInputs) (s : State), s.held = false →
    ∃ t g, exec (.cycleEnd inputs) s = .next t ∧ t.edge = some g ∧
      (s.config = none ∨ s.front.supplyCount = 0 →
        g.warnDue = none ∧ t.supervisor.warn = s.supervisor.warn ∧
        t.supervisor.alarms.supply = s.supervisor.alarms.supply) ∧
      ∀ c m, s.config = some c → 0 < s.front.supplyCount →
        m = (roundDiv s.front.supplySum s.front.supplyCount).toNat →
        t.front.lastMeanS = some m ∧
        (inputs.warnLast = true → g.boundary ≠ none →
          g.warnDue = some m ∧ t.supervisor.warn = s.supervisor.warn ∧
          t.supervisor.alarms.supply = s.supervisor.alarms.supply) ∧
        (inputs.warnLast = false ∨ g.boundary = none →
          g.warnDue = none ∧
          (s.supervisor.warn = false → t.supervisor.warn = decide (m < c.warnLevel)) ∧
          (s.supervisor.warn = true → t.supervisor.warn = decide (m < c.warnLevel + 30)) ∧
          t.supervisor.alarms.supply =
            (s.supervisor.alarms.supply || (t.supervisor.warn && !s.supervisor.warn)))) ∧
  ∀ (c : Settings) (g : CycleEdge) (kind : BoundaryKind) (upsets : BoundaryUpsets) (s : State),
    s.held = false → s.config = some c → s.edge = some g → g.boundary = some kind →
    ∃ t, exec (.frameBoundary upsets) s = .next t ∧ (t.edge.bind CycleEdge.warnDue) = none ∧
      t.supervisor.condition = conditionOf true t.supervisor ∧
      (g.warnDue = none →
        t.supervisor.warn = s.supervisor.warn ∧
        t.supervisor.alarms.supply = s.supervisor.alarms.supply) ∧
      ∀ m, g.warnDue = some m →
        (s.supervisor.warn = false → t.supervisor.warn = decide (m < c.warnLevel)) ∧
        (s.supervisor.warn = true → t.supervisor.warn = decide (m < c.warnLevel + 30)) ∧
        t.supervisor.alarms.supply =
          (s.supervisor.alarms.supply || (t.supervisor.warn && !s.supervisor.warn))

/-- A cycle end at which the lock is lost clears the working mark, and leaves none of the working
conditions (R78, R159); any other leaves the working mark as it was. -/
def Obligations.LockLostLeavesWork : Prop :=
  ∀ (inputs : CycleInputs) (s : State), ∃ t, exec (.cycleEnd inputs) s = .next t ∧
    (s.agreement.lock = .locked → t.agreement.lock = .unlocked →
      t.supervisor.working = false ∧ t.supervisor.condition ≠ .regulating ∧
      t.supervisor.condition ≠ .holding ∧ t.supervisor.condition ≠ .survey) ∧
    (s.agreement.lock ≠ .locked ∨ t.agreement.lock ≠ .unlocked →
      t.supervisor.working = s.supervisor.working)

/-- Eight consecutive small errors make an unlocked station LOCKED and seven do not; sixteen large
errors, other cycle ends bringing no error at all, make a locked one UNLOCKED and fifteen do not. Each
cycle end's step of both counts, with what returns each to 0, is as the table of R79 and R77, R78 say;
a SOLITARY station's cycle ends change nothing. CYCLE_END takes this step with its cycle's weighted error
where no entry fails its check (R75; where one does, the order is open, log 7), but in FAULT, where the
state and the counts stand (R80 over R77, log 13). -/
def Obligations.LockTakesEightLossSixteen : Prop :=
  (∀ (a : Agreement) (errors : List Int), a.lock = .unlocked → errors.length = 8 →
    (∀ e ∈ errors, e.natAbs ≤ 10) → a.acquisition < 8 →
    (errors.foldl (fun a e => (lockStep (some e) a).1) a).lock = .locked) ∧
  (∀ (a : Agreement) (errors : List (Option Int)), a.lock = .locked → a.loss = 0 →
    (∀ e ∈ errors, ∀ x, e = some x → 30 < x.natAbs) →
    (errors.filter Option.isSome).length = 16 →
    (errors.foldl (fun a e => (lockStep e a).1) a).lock = .unlocked) ∧
  (∀ (a : Agreement) (errors : List Int), a.lock = .unlocked →
    (∀ e ∈ errors, e.natAbs ≤ 10) → a.acquisition + errors.length < 8 →
    errors.foldl (fun a e => (lockStep (some e) a).1) a =
      { a with acquisition := a.acquisition + errors.length }) ∧
  (∀ (a : Agreement) (errors : List (Option Int)), a.lock = .locked →
    (∀ e ∈ errors, ∀ x, e = some x → 30 < x.natAbs) →
    a.loss + (errors.filter Option.isSome).length < 16 →
    errors.foldl (fun a e => (lockStep e a).1) a =
      { a with loss := a.loss + (errors.filter Option.isSome).length }) ∧
  (∀ (a : Agreement) (e : Int),
    (a.lock = .unlocked →
      lockStep none a = ({ a with acquisition := 0 }, false) ∧
      (10 < e.natAbs → lockStep (some e) a = ({ a with acquisition := 0 }, false)) ∧
      (e.natAbs ≤ 10 → a.acquisition = 7 →
        lockStep (some e) a =
          ({ a with lock := .locked, acquisition := 0, loss := 0 }, false))) ∧
    (a.lock = .locked →
      lockStep none a = (a, false) ∧
      (e.natAbs ≤ 30 → lockStep (some e) a = ({ a with loss := 0 }, false)) ∧
      (30 < e.natAbs → a.loss = 15 →
        lockStep (some e) a =
          ({ a with lock := .unlocked, acquisition := 0, loss := 0 }, true))) ∧
    (a.lock = .solitary → lockStep none a = (a, false) ∧ lockStep (some e) a = (a, false))) ∧
  ∀ (c : Settings) (inputs : CycleInputs) (s : State), s.held = false → s.config = some c →
    ∃ t, exec (.cycleEnd inputs) s = .next t ∧
      (s.supervisor.condition = .fault →
        t.agreement = { s.agreement with relock := t.agreement.relock }) ∧
      ∀ (usable : Bool) (e : Option Int), s.supervisor.condition ≠ .fault →
        inputs.ended = [] → (∀ x ∈ entriesOf s.table.slots, x.parityGood = true) →
        usable = (decide (min (s.timer.length / 20) 1280 ≤ s.ms) && cycleUsable s) →
        e = weightedError ((s.correlator.lanes.filterMap id).filterMap fun w =>
          if w ∈ codesOf s.table.slots then
            (laneResult c s.timer.position usable s.front.early s.front.prompt s.front.late w).timing
          else none) →
        t.agreement = { (lockStep e s.agreement).1 with relock := t.agreement.relock }

/-! ### Codes and figures -/

/-- The chips of R8: their signs by the parity of the one bits, the balance of every code in use, the
product of two codes, and so the orthogonality a correlation rests on. The chip orders of R9: SEQUENTIAL
carries each position's own index and SCRAMBLED its XOR with S_n of the cycle-in-epoch, which visits every
index once and keys a code whole or inverted; and the balance and the orthogonality hold in every cycle of
either order. -/
def Obligations.CodesAreOrthogonal : Prop :=
  (∀ w < 64, ∀ i < 64,
    chip w i = if ((List.range 6).countP fun k => (i &&& w).testBit k) % 2 = 0 then 1 else -1) ∧
  (∀ w, 1 ≤ w → w < 64 →
    ((List.range 64).countP fun i => chip w i = 1) = 32 ∧
      ((List.range 64).countP fun i => chip w i = -1) = 32) ∧
  (∀ w < 64, ∀ v < 64, ∀ i < 64, chip w i * chip v i = chip (w ^^^ v) i) ∧
  (∀ position p : Nat, chipIndex .sequential position p = p ∧
    ∀ n k : Nat, n = position % 8 →
      (n, k) ∈ [(0, 0), (1, 45), (2, 27), (3, 54), (4, 11), (5, 38), (6, 60), (7, 17)] →
      chipIndex .scrambled position p = p ^^^ k ∧
      ((List.range 64).map (chipIndex .scrambled position)).Perm (List.range 64) ∧
      (p < 64 → ∀ w < 64, chip w (chipIndex .scrambled position p) = chip w p * chip w k) ∧
      ∀ w < 64, ∀ values : List Int, values.length ≤ 64 →
        corrSum .scrambled position w values =
          chip w k * corrSum .sequential position w values) ∧
  (∀ (order : ChipOrder) (position w : Nat), 1 ≤ w → w < 64 → ∀ x : Int,
    corrSum order position w (List.replicate 64 x) = 0) ∧
  ∀ (order : ChipOrder) (position w v : Nat),
    1 ≤ w → w < 64 → 1 ≤ v → v < 64 → w ≠ v → ∀ x : Int,
    corrSum order position w
      ((List.range 64).map fun p => x * chip v (chipIndex order position p)) = 0

/-- The figures as their rules give them, and the ranges they keep: influence, self figure, timing
error, weighted error and adjustment (R40, R42, R46, R75, R76); and the table of a tracking lane's
results: nothing from a cycle that is empty, disturbed or in the relock span, the figure alone where it
is below g_detect, else the bit by the sign of XP, the figure, and |XP| with the timing error where
one forms (R41 to R43). -/
def Obligations.FiguresKeepRanges : Prop :=
  (∀ (k : Nat) (xp : Int), influence k xp ≤ 65535 ∧
    (influence k xp : Int) = min 65535 (roundDiv (|xp| * 1000) (64 * (10 * k)))) ∧
  (∀ k xp b, -65535 ≤ selfFigure k xp b ∧ selfFigure k xp b ≤ 65535 ∧
    selfFigure k xp b =
      max (-65535) (min 65535 (roundDiv ((if b then xp else -xp) * 1000) (64 * (10 * k))))) ∧
  (∀ xe xl e, timingError xe xl = some e → -60 ≤ e ∧ e ≤ 60) ∧
  (∀ xs : List (Nat × Int), (∀ x ∈ xs, -60 ≤ x.2 ∧ x.2 ≤ 60) →
    (xs = [] → weightedError xs = none ∧ adjustmentOf (weightedError xs) = 0) ∧
    ∀ e, weightedError xs = some e →
      e = roundDiv (xs.map fun x => (x.1 : Int) * x.2).sum (xs.map Prod.fst).sum ∧
      -60 ≤ e ∧ e ≤ 60 ∧ -30 ≤ adjustmentOf (some e) ∧ adjustmentOf (some e) ≤ 30 ∧
      adjustmentOf (some e) = roundDiv e 2) ∧
  ∀ (c : Settings) (position w : Nat) (early prompt late : List Int) (xp xe xl : Int),
    xp = corrSum c.order position w prompt → xe = corrSum c.order position w early →
    xl = corrSum c.order position w late →
    laneResult c position false early prompt late w =
      { code := w, place := none, figure := none, timing := none } ∧
    (influence c.depth xp < c.gDetect →
      laneResult c position true early prompt late w =
        { code := w, place := none, figure := some (influence c.depth xp), timing := none }) ∧
    (c.gDetect ≤ influence c.depth xp →
      laneResult c position true early prompt late w =
        { code := w, place := some (decide (0 < xp)), figure := some (influence c.depth xp)
          timing :=
            if xl.natAbs + xe.natAbs = 0 then none
            else
              some (xp.natAbs,
                roundDiv (60 * ((xl.natAbs : Int) - xe.natAbs)) (xl.natAbs + xe.natAbs)) })

/-! ### The search lane and the table -/

/-- DWELL_END empties the dwell and moves the code on; a figure of at least g_detect on a code the table
does not hold is offered, at once or, at a boundary, to the boundary's work, and otherwise nothing is (R51,
R57, R60); the rest of the cycle end's record stands for the boundary. The codes passed over are those of
the ended cycle's start, one removed within that cycle among them: R52 over R72, by the model's choice (log
35). -/
def Obligations.DwellEndOffersAndMoves : Prop :=
  ∀ (c : Settings) (g : CycleEdge) (s : State),
    s.held = false → s.config = some c → s.edge = some g → g.dwellDue = true →
    s.correlator.waiting = false →
    ∃ t g', exec .dwellEnd s = .next t ∧
      t = { s with correlator := t.correlator, table := t.table, edge := some g' } ∧
      t.correlator =
        { s.correlator with
          dwellSum := 0, dwellCount := 0, startCodes := t.correlator.startCodes,
          dwellCode := nextDwell c.ownCode g.endedCodes 63 s.correlator.dwellCode } ∧
      t.correlator.startCodes =
        (if g.boundary = none then codesOf t.table.slots else s.correlator.startCodes) ∧
      g' = { g with dwellDue := false, offer := g'.offer } ∧
      (g.boundary = none → g'.offer = g.offer) ∧ t.table.errors = s.table.errors ∧
      (∀ f, 0 < s.correlator.dwellCount →
        f = (roundDiv s.correlator.dwellSum s.correlator.dwellCount).toNat → c.gDetect ≤ f →
        s.correlator.dwellCode ∉ codesOf s.table.slots →
        (g.boundary = none →
          t.table.slots = admitOffer c.ownCode s.correlator.dwellCode f s.table.slots) ∧
        (g.boundary ≠ none →
          t.table = s.table ∧ g'.offer = some (s.correlator.dwellCode, f))) ∧
      (s.correlator.dwellCount = 0 ∨ s.correlator.dwellCode ∈ codesOf s.table.slots ∨
          (roundDiv s.correlator.dwellSum s.correlator.dwellCount).toNat < c.gDetect →
        t.table = s.table ∧ (g.boundary ≠ none → g'.offer = none))

/-- The next dwell code is the first, counting up and wrapping from 63 to 1, that is neither the own
code nor one of the at most eight codes passed over (R52). -/
def Obligations.NextDwellIsFirstEligible : Prop :=
  ∀ (own code : Nat) (passed : List Nat),
    1 ≤ own → own ≤ 63 → 1 ≤ code → code ≤ 63 → passed.length ≤ 8 →
    ∃ d, 1 ≤ d ∧ d ≤ 63 ∧ nextDwell own passed 63 code = (code - 1 + d) % 63 + 1 ∧
      nextDwell own passed 63 code ≠ own ∧ nextDwell own passed 63 code ∉ passed ∧
      ∀ k, 1 ≤ k → k < d → (code - 1 + k) % 63 + 1 = own ∨ (code - 1 + k) % 63 + 1 ∈ passed

/-- Admission: an own or held code is refused; else the lowest free slot takes the new CANDIDATE; in a
full table the weakest PARKED entry gives way to a greater figure; else the offer is refused
(R56 to R58). -/
def Obligations.AdmissionChoosesSlot : Prop :=
  ∀ (own code figure : Nat) (slots : List (Option Entry)), (codesOf slots).Nodup →
    (code = own ∨ code ∈ codesOf slots → admitOffer own code figure slots = slots) ∧
    (code ≠ own → code ∉ codesOf slots →
      ∃ new : Entry,
        new =
          { code := code, state := .candidate, lane := none, g := figure, gValid := false,
            frameSum := 0, frameCount := 0, age := 0, low := 0,
            history := List.replicate 32 none, offset := none, discarded := 0, record := none,
            parityGood := true } ∧
        (∀ k, slots[k]? = some none → (∀ j < k, slots[j]? ≠ some none) →
          admitOffer own code figure slots = slots.set k (some new)) ∧
        ((∀ o ∈ slots, o ≠ none) →
          (∀ k e, slots[k]? = some (some e) → e.state = .parked →
            (∀ e' ∈ entriesOf slots, e'.state = .parked →
              e.g < e'.g ∨ (e.g = e'.g ∧ e'.code ≤ e.code)) →
            (e.g < figure → admitOffer own code figure slots = slots.set k (some new)) ∧
            (figure ≤ e.g → admitOffer own code figure slots = slots)) ∧
          ((∀ e ∈ entriesOf slots, e.state ≠ .parked) →
            admitOffer own code figure slots = slots)))

/-- The waiters and their ranking (R64): every CANDIDATE above every PARKED entry, among CANDIDATEs the
higher g first, among PARKED entries the older age, and where equal the lower code. A lane is free with no
entry bound to it. The arbiter: no waiter, no opening; a free lane, the lowest of them, opens to the best
waiter; no free lane, and the weakest holder is evicted for the best waiter exactly when a PARKED entry is
old enough or a CANDIDATE stronger (R64 to R66). -/
def Obligations.ArbiterOpensOneLane : Prop :=
  (∀ a b : Entry,
    (a.state = .candidate → b.state = .parked → outranks a b = true ∧ outranks b a = false) ∧
    (a.state = .candidate → b.state = .candidate →
      (outranks a b = true ↔ b.g < a.g ∨ (b.g = a.g ∧ a.code < b.code))) ∧
    (a.state = .parked → b.state = .parked →
      (outranks a b = true ↔ b.age < a.age ∨ (b.age = a.age ∧ a.code < b.code)))) ∧
  (∀ (code : Nat) (f : Entry → Entry) (slots : List (Option Entry)),
    changeCode code f slots = slots.map fun o => o.map fun e => if e.code = code then f e else e) ∧
  ∀ (own : Nat) (c : Settings) (slots : List (Option Entry)), SlotsOk own slots →
    waitersOf slots =
      (entriesOf slots).filter (fun e => e.state = .candidate ∨ e.state = .parked) ∧
    freeLanes slots =
      [1, 2, 3, 4].filter (fun lane => ∀ e ∈ entriesOf slots, e.lane ≠ some lane) ∧
    (waitersOf slots = [] → arbitrate c slots = (slots, none)) ∧
    ∀ b ∈ waitersOf slots, (∀ b' ∈ waitersOf slots, b' = b ∨ outranks b b' = true) →
      (∀ lane, (freeLanes slots).head? = some lane →
        arbitrate c slots = (changeCode b.code (Entry.openTo lane) slots, some lane)) ∧
      (freeLanes slots = [] → ∀ w ∈ entriesOf slots, ∀ lane, w.lane = some lane →
        (∀ w' ∈ entriesOf slots, w'.lane.isSome = true →
          w.g < w'.g ∨ (w.g = w'.g ∧ w'.code ≤ w.code)) →
        ((∃ e ∈ waitersOf slots,
            (e.state = .parked ∧ c.refresh / 2 ≤ e.age) ∨ (e.state = .candidate ∧ w.g < e.g)) →
          arbitrate c slots =
            (changeCode b.code (Entry.openTo lane) (changeCode w.code Entry.evict slots),
              some lane)) ∧
        ((∀ e ∈ waitersOf slots,
            ¬((e.state = .parked ∧ c.refresh / 2 ≤ e.age) ∨
              (e.state = .candidate ∧ w.g < e.g))) →
          arbitrate c slots = (slots, none)))

/-- What an entry takes. At a cycle end, from its lane's result: the figure into the frame sum, the place
into the history (R59, R97); a frame found only while the station decodes, setting the watch, accepted
when aligned or confirmed 32 cycle ends on, its offset recorded when misaligned, ignored at position 0,
and a discard counted only where the watch is due (R83, R84, R101 to R103); a realignment exactly as
R86's tests say; and a pending offset stale after 32 cycle ends (R84). At a boundary, the update by the
table of R61, loss at a low-signal count of 2 (R62), removal by age (R63), the fields of an eviction and
an opening (R66, R67), and the ageing of its record (R105). -/
def Obligations.FrameFigureUpdatesEntry : Prop :=
  ∀ (c : Settings) (e : Entry),
    (e.frameCount = 0 →
      e.closeFrame c =
        { e with age := min 255 (e.age + 1), frameSum := 0, frameCount := 0, parityGood := true }) ∧
    (∀ f, 0 < e.frameCount → f = (roundDiv e.frameSum e.frameCount).toNat →
      e.closeFrame c =
        { e with
          g := if e.gValid then
                 (max 0 (min 65535 ((e.g : Int) + roundDiv ((f : Int) - e.g) 4))).toNat
               else f
          gValid := true, age := 0, frameSum := 0, frameCount := 0, parityGood := true
          low := if f < c.gDetect / 2 then min 2 (e.low + 1) else 0 }) ∧
    (e.state = .tracked →
      e.atBoundary c = if (e.closeFrame c).low = 2 then none else some (e.closeFrame c)) ∧
    (e.state ≠ .tracked →
      e.atBoundary c =
        if min 255 (2 * c.refresh) ≤ min 255 (e.age + 1) then none
        else some { e with age := min 255 (e.age + 1), parityGood := true }) ∧
    e.evict = { e with state := .parked, lane := none, age := 0, parityGood := true } ∧
    (∀ lane,
      e.openTo lane =
        { e with
          state := .tracked, lane := some lane, history := List.replicate 32 none, offset := none
          frameSum := 0, frameCount := 0, low := 0, parityGood := true }) ∧
    (∀ accepted,
      e.ageRecord accepted =
        if e.code ∈ accepted then e
        else
          { e with
            record := e.record.map fun r => { r with age := min 255 (r.age + 1) }
            parityGood := true }) ∧
    ∀ (own : Condition) (decodes : Bool) (p now : Nat) (watch : Option Nat) (r : LaneResult)
      (o : EntryOutcome) (found : Option FrameRecord), p < 32 →
      o = entryAtCycleEnd c own decodes p now watch r e →
      found = (if decodes then frameTest (e.history.drop 1 ++ [r.place]) else none) →
      o.entry =
        { e with
          frameSum := e.frameSum + r.figure.getD 0
          frameCount := e.frameCount + if r.figure.isSome then 1 else 0
          history := e.history.drop 1 ++ [r.place]
          discarded :=
            if found = none ∧ watch = some now then min 255 (e.discarded + 1) else e.discarded
          offset :=
            if found = none ∨ p = 0 then e.offset
            else if p = 31 then none else some { offset := 31 - p, count := now }
          record := if o.accepted then found else e.record
          parityGood := true } ∧
      o.watch =
        (if found ≠ none ∨ watch = some now then some ((now + 32) % 65536) else watch) ∧
      (o.aligned = true ↔ found ≠ none ∧ p = 31) ∧
      (o.accepted = true ↔
        found ≠ none ∧
          (p = 31 ∨
            (p ≠ 0 ∧ ∃ q, e.offset = some q ∧ q.offset = 31 - p ∧ countsSince now q.count = 32))) ∧
      (o.realigns = true ↔
        o.accepted = true ∧ p ≠ 31 ∧ ∃ f, found = some f ∧
          ((own = .acquiring ∧ f.condition ≠ .acquiring) ∨
            ((own = .acquiring ∨ f.condition = .regulating ∨ f.condition = .survey) ∧
              (31 - p ≤ 15 ∨ (31 - p = 16 ∧ c.ownCode < e.code))))) ∧
      (∀ q, e.offset = some q →
        e.dropStale now = if 33 ≤ countsSince now q.count then { e with offset := none } else e) ∧
      (e.offset = none → e.dropStale now = e)

/-! ### The frame boundary -/

/-- FRAME_BOUNDARY at a cycle end that is one: the boundary is taken once, the time, the queue and what no
boundary work touches stand, and the own frame built from the results is keyed from its first cycle (R60,
R93, R96, R111, R135, R161). The table is what its work in order makes of it, no entry being struck after
that: failing entries removed and counted before all else (R71, R72), records aged, entries updated, aged or
lost, the offer of a dwell that ends here admitted or refused, and the lanes arbitrated, the watches of the
lanes freed, closed or opened dropped (R51, R57, R58, R60, R62 to R67, R102, R105). A dwell end still owed
is taken first (log 4); an offer already made stands, though a BROWNOUT entry of the same instant has come
between, by the model's choice (log 34, R57 against R69). The frame shows the condition this boundary
settles, before a warn test that comes after it (R161, log 36). The first cycle of the new frame has the
lanes and the search lane's codes of the table as the boundary leaves it (R34, R52, R67, R68), and the dwell
end taken here moves the search lane on (R51, R52, log 35). The front end and the timer stand, but that a
FAULT entered here ends sampling (R28), and the new cycle begins keyed exactly where there is output (R14).
The MAINS level, the brownout flag, both runs, the relock span and the alarms STAGE and CAPDROP stand. -/
def Obligations.BoundaryBuildsFrame : Prop :=
  ∀ (c : Settings) (g : CycleEdge) (kind : BoundaryKind) (upsets : BoundaryUpsets) (s : State),
    s.held = false → s.config = some c → s.edge = some g → g.boundary = some kind →
    ∃ t f, exec (.frameBoundary upsets) s = .next t ∧
      t.supervisor =
        { t.supervisor with
          mains := s.supervisor.mains, brownout := s.supervisor.brownout,
          lowRun := s.supervisor.lowRun, highRun := s.supervisor.highRun,
          alarms :=
            { t.supervisor.alarms with
              stage := s.supervisor.alarms.stage
              capdrop := s.supervisor.alarms.capdrop } } ∧
      t.agreement.relock = s.agreement.relock ∧
      t.held = s.held ∧ t.load = s.load ∧ t.lines = s.lines ∧ t.bus = s.bus ∧
      t.config = s.config ∧ t.pending = s.pending ∧
      t.capture = s.capture ∧ t.service = s.service ∧ t.freeCount = s.freeCount ∧
      t.timer = { s.timer with window := t.timer.window } ∧
      t.frames.cycleCount = s.frames.cycleCount ∧
      t.frames.ownFrame = some f ∧ t.wire = s.wire ∧
      (g.warnDue = none → settledCondition s t = t.supervisor.condition) ∧
      f = buildFrame (settledCondition s t) t.regulation.staged t.survey
            (t.regulation.floor || t.regulation.ilimit || t.regulation.vlimit)
            (t.regulation.noself || t.keying.stage) ∧
      t.keying.dataBit = f.getD s.timer.position false ∧
      t.supervisor.pendingHold = none ∧ t.survey.origination = none ∧
      (∃ taken, taken = (g.dwellDue && !s.correlator.waiting) ∧
        t.edge =
          some
            { g with
              boundary := none, dwellDue := g.dwellDue && s.correlator.waiting, offer := none,
              warnDue := none } ∧
        t.correlator =
          { s.correlator with
            selfSum := 0
            selfCount := 0
            gSelf := t.correlator.gSelf
            gSelfValid := t.correlator.gSelfValid
            reversed := t.correlator.reversed
            darkSeen :=
              s.correlator.darkSeen ||
                decide (s.supervisor.condition ≠ .dark ∧ t.supervisor.condition = .dark)
            lanes := t.correlator.lanes
            dwellCode :=
              if taken then nextDwell c.ownCode g.endedCodes 63 s.correlator.dwellCode
              else s.correlator.dwellCode
            dwellSum := if taken then 0 else s.correlator.dwellSum
            dwellCount := if taken then 0 else s.correlator.dwellCount
            startCodes := codesOf t.table.slots }) ∧
      t.correlator.lanes.length = 4 ∧
      (SlotsOk c.ownCode s.table.slots → ∀ lane w, 1 ≤ lane → lane ≤ 4 →
        (t.correlator.lanes[lane - 1]? = some (some w) ↔
          ∃ e ∈ entriesOf t.table.slots, e.code = w ∧ e.lane = some lane)) ∧
      t.keying = { s.keying with dataBit := t.keying.dataBit, keyed := t.keying.keyed } ∧
      (s.timer.phase = 0 → s.keying.keyed = s.supervisor.condition.output →
        t.keying.keyed = t.supervisor.condition.output) ∧
      (s.timer.window ≠ .opened →
        t.timer = s.timer ∧
        (t.supervisor.condition = s.supervisor.condition ∨
            s.supervisor.condition.samples = true ∧ t.supervisor.condition.samples = true →
          t.front = s.front) ∧
        (s.supervisor.condition ≠ .fault → t.supervisor.condition = .fault →
          t.front = { s.front with unbroken := false, whole := false })) ∧
      t.regulation.sampleSum = 0 ∧ t.regulation.sampleCount = 0 ∧
      (kind = .forced → ∀ e ∈ entriesOf t.table.slots, e.offset = none) ∧
      ∀ (figure : Nat) (offer : Option (Nat × Nat)) (failed kept : List (Option Entry)) aged
          updated worked,
        upsets.apply = [] → upsets.survey = [] → upsets.plan = [] → upsets.started = [] →
        failed =
          (s.table.slots.zipIdx.map fun (o, k) =>
            o.filter fun e => !e.parityGood || decide (k ∈ upsets.work)) →
        kept =
          (s.table.slots.zipIdx.map fun (o, k) =>
            o.filter fun e => e.parityGood && decide (k ∉ upsets.work)) →
        figure = (roundDiv s.correlator.dwellSum s.correlator.dwellCount).toNat →
        offer =
          (if g.dwellDue = true ∧ s.correlator.waiting = false then
            if 0 < s.correlator.dwellCount ∧ c.gDetect ≤ figure ∧
                s.correlator.dwellCode ∉ codesOf s.table.slots then
              some (s.correlator.dwellCode, figure)
            else none
           else g.offer) →
        aged = kept.map (fun o => o.map (Entry.ageRecord g.accepted)) →
        updated = aged.map (fun o => o.bind (Entry.atBoundary c)) →
        worked =
          arbitrate c
            (match offer with
            | some (code, f) => admitOffer c.ownCode code f updated
            | none => updated) →
        t.table =
          { slots :=
              if kind = .ordinary then worked.1
              else worked.1.map fun o => o.map fun e => { e with offset := none }
            errors :=
              if entriesOf failed = [] then s.table.errors
              else min 255 (s.table.errors + (entriesOf failed).length) } ∧
        t.frames.watches =
          dropWatches
            ((entriesOf failed).filterMap Entry.lane ++ lostLanes c aged ++ worked.2.toList)
            s.frames.watches

/-- At a boundary the staged step joins the set current, but not at a forced one; a DEPOLARIZE survey that
starts saves the current and sets K, and one that ends restores it, both setting the settle mark; where one
of another generation takes over from it, K is set again and the current saved already stands (R89, R112,
R131, R142). With no such change, and no entry struck after regulation's read at its apply stage, which
proceeds without those it finds failing (R71, R111), the mark is set exactly by the own applied step or a
TRACKED neighbour's announced one (R113). -/
def Obligations.BoundaryAppliesStep : Prop :=
  ∀ (c : Settings) (g : CycleEdge) (kind : BoundaryKind) (i : Int) (upsets : BoundaryUpsets)
    (s : State),
    s.held = false → s.config = some c → s.edge = some g → g.boundary = some kind →
    s.regulation.setCurrent = some i →
    ∃ t applied, exec (.frameBoundary upsets) s = .next t ∧
      applied = (if kind = .ordinary then i + s.regulation.staged else i) ∧
      (s.survey.runs .depolarize = false ∧ t.survey.runs .depolarize = false ∨
          s.survey.runs .depolarize = true ∧ t.survey.runs .depolarize = true ∧
            t.survey.generation = s.survey.generation →
        t.regulation.setCurrent = some applied ∧ t.regulation.resume = s.regulation.resume ∧
        (upsets.survey = [] → upsets.plan = [] → upsets.started = [] →
          (t.regulation.settle = true ↔
            (kind = .ordinary ∧ s.regulation.staged ≠ 0) ∨
              ∃ e ∈ entriesOf t.table.slots, ∃ r, e.state = .tracked ∧ e.record = some r ∧
                r.age = 0 ∧ r.step ≠ 0))) ∧
      (t.survey.runs .depolarize = true →
        s.survey.runs .depolarize = false ∨ t.survey.generation ≠ s.survey.generation →
        t.regulation.setCurrent = some (c.depth : Int) ∧ t.regulation.settle = true ∧
        t.regulation.resume = s.regulation.resume.or (some applied)) ∧
      (s.survey.runs .depolarize = true → t.survey.runs .depolarize = false →
        t.regulation.setCurrent = s.regulation.resume.or (some applied) ∧
        t.regulation.settle = true ∧ t.regulation.resume = none) ∧
      (kind = .ordinary → s.regulation.staged ≠ 0 → t.regulation.settle = true)

/-- A boundary closes the frame mean, and plans only where the new frame's condition is REGULATING: in any
other the staged step is 0 and the four causes are inactive (R115, R116). In REGULATING, with no entry
struck after regulation's last read, and without those its reads and the coordinator's find failing (R71),
the step is the plan's from the results of this boundary (R111, R119). Each active cause latches its alarm,
and an inactive one leaves it (R128, R167). The spacing count advances, and is 0 at a nonzero step (R116,
R118); the no-measure count counts a plan without a mean whose closing frame began in REGULATING (R129). The
condition is the one the boundary settles; a warn test that comes after it changes none of this (R161, log
36). -/
def Obligations.OnlyRegulatingPlans : Prop :=
  ∀ (c : Settings) (g : CycleEdge) (kind : BoundaryKind) (upsets : BoundaryUpsets) (s : State),
    s.held = false → s.config = some c → s.edge = some g → g.boundary = some kind →
    ∃ t x spacing, exec (.frameBoundary upsets) s = .next t ∧ x = settledCondition s t ∧
      (g.warnDue = none → x = t.supervisor.condition) ∧
      t.regulation.frameMean =
        (if s.regulation.sampleCount = 0 then none
         else some (roundDiv s.regulation.sampleSum s.regulation.sampleCount)) ∧
      t.regulation.beganRegulating = decide (x = .regulating) ∧
      (x ≠ .regulating →
        t.regulation.staged = 0 ∧ t.regulation.floor = false ∧ t.regulation.ilimit = false ∧
        t.regulation.vlimit = false ∧ t.regulation.noself = false) ∧
      t.supervisor.alarms.floor = (s.supervisor.alarms.floor || t.regulation.floor) ∧
      t.supervisor.alarms.ilimit = (s.supervisor.alarms.ilimit || t.regulation.ilimit) ∧
      t.supervisor.alarms.vlimit = (s.supervisor.alarms.vlimit || t.regulation.vlimit) ∧
      t.supervisor.alarms.noself = (s.supervisor.alarms.noself || t.regulation.noself) ∧
      spacing = s.regulation.spacing.map (fun n => min 255 (n + 1)) ∧
      t.regulation.spacing = (if t.regulation.staged = 0 then spacing else some 0) ∧
      t.regulation.noMeasure =
        (if x = .regulating ∧ t.regulation.frameMean = none ∧
            s.regulation.beganRegulating = true then
          min 65535 (s.regulation.noMeasure + 1)
         else s.regulation.noMeasure) ∧
      (x = .regulating → upsets.started = [] →
        ∃ p : Plan,
          p = planStep c
            { mean := t.regulation.frameMean
              gSelf := t.correlator.gSelf
              gSelfValid := t.correlator.gSelfValid
              setCurrent := t.regulation.setCurrent.getD 0
              applied := if kind = .ordinary then 10 * s.regulation.staged else 0
              neighbours :=
                (entriesOf t.table.slots).filterMap fun e =>
                  e.record.bind fun r =>
                    if e.state = .tracked ∧ r.age = 0 ∧ e.gValid = true then some (e.g, r.step)
                    else none
              voltageLimit := s.keying.voltageLimit
              spacing := spacing } ∧
          t.regulation.staged = p.step ∧ t.regulation.floor = p.floor ∧
          t.regulation.ilimit = p.ilimit ∧ t.regulation.vlimit = p.vlimit ∧
          t.regulation.noself = p.noself)

/-- A plan keeps the step limit, the current range and the voltage hold, and is 0 while a precondition
holds it or the remaining error lies within the dead band above the floor (R117, R120, R123 to R127);
past them it is what the stages in order make of the error: anticipation, raw step, floor step, step
limit, quantising, range and voltage hold, with the causes they set (R119 to R126). -/
def Obligations.PlanKeepsLimits : Prop :=
  ∀ (c : Settings) (i : PlanInput), 0 ≤ c.stepLimit → c.iMin ≤ i.setCurrent →
    i.setCurrent ≤ c.iMax →
    ∃ p, planStep c i = p ∧
      -c.stepLimit ≤ p.step ∧ p.step ≤ c.stepLimit ∧
      c.iMin ≤ i.setCurrent + p.step ∧ i.setCurrent + p.step ≤ c.iMax ∧
      (i.voltageLimit = true → p.step ≤ 0) ∧
      (p.vlimit = true → i.voltageLimit = true ∧ p.step = 0) ∧
      (p.ilimit = true → i.setCurrent + p.step = c.iMax ∨ p.vlimit = true) ∧
      (i.mean = none → p.step = 0) ∧
      (i.gSelfValid = false ∨ i.gSelf < c.gDetect → p.step = 0 ∧ p.noself = true) ∧
      (∀ n, i.spacing = some n → n < c.spacing → p.step = 0) ∧
      (∀ m, i.mean = some m → c.floor ≤ m →
        (m - c.target - anticipation i).natAbs < c.deadBand → p.step = 0) ∧
      (∀ m, i.mean = some m → c.gDetect ≤ i.gSelf → i.gSelfValid = true → i.spacing = none →
        p.floor = decide (m < c.floor)) ∧
      (p.noself = true ↔ i.gSelfValid = false ∨ i.gSelf < c.gDetect) ∧
      ∀ m a r q0 q1 q2 q3 : Int, i.mean = some m → c.gDetect ≤ i.gSelf → i.gSelfValid = true →
        (∀ n, i.spacing = some n → c.spacing ≤ n) →
        a = roundDiv
          (i.gSelf * i.applied + (i.neighbours.map fun n => (n.1 : Int) * (10 * n.2)).sum) 1000 →
        r = m - c.target - a →
        q0 = roundDiv (c.gain * r * 1000) (8 * i.gSelf) →
        q1 = (if m < c.floor then min q0 (-roundDiv ((c.floor - m) * 1000) i.gSelf) else q0) →
        q2 = 10 * roundDiv (max (-(10 * c.stepLimit)) (min (10 * c.stepLimit) q1)) 10 →
        q3 =
          (if 10 * c.iMax < 10 * i.setCurrent + q2 then 10 * c.iMax - 10 * i.setCurrent
           else if 10 * i.setCurrent + q2 < 10 * c.iMin then 10 * c.iMin - 10 * i.setCurrent
           else q2) →
        (|r| < c.deadBand → c.floor ≤ m →
          p = { step := 0, floor := false, ilimit := false, vlimit := false, noself := false }) ∧
        (c.deadBand ≤ |r| ∨ m < c.floor →
          10 * p.step = (if i.voltageLimit = true ∧ 0 < q3 then 0 else q3) ∧
          p.floor = decide (m < c.floor) ∧
          p.ilimit = decide (10 * c.iMax < 10 * i.setCurrent + q2) ∧
          p.vlimit = (i.voltageLimit && decide (0 < q3)))

/-- The working mark is set at a boundary only by qualification out of ACQUIRING: sixteen boundaries with
neither a TRACKED entry nor a CANDIDATE, which make the lock SOLITARY, or a LOCKED station's second aligned
frame in a row from one code; and either sets it (R157, R158). In any other condition the working mark, the
solitary count and, but for SOLITARY, the lock state and its counts stand (R79); a SOLITARY station whose
table presents a TRACKED entry becomes LOCKED with loss count 0, the solitary decision makes SOLITARY with
acquisition count 0, and else, in ACQUIRING too, both stand (R79); the last aligned codes become this
boundary's in every condition. The table is read as the boundary leaves it, no entry being struck after its
work. -/
def Obligations.QualificationSetsWorking : Prop :=
  ∀ (c : Settings) (g : CycleEdge) (kind : BoundaryKind) (upsets : BoundaryUpsets) (s : State),
    s.held = false → s.config = some c → s.edge = some g → g.boundary = some kind →
    ∃ t, exec (.frameBoundary upsets) s = .next t ∧
      (StationOk s → s.supervisor.condition ≠ .acquiring →
        t.supervisor.working = s.supervisor.working ∧
        t.supervisor.solitary = s.supervisor.solitary ∧
        (s.agreement.lock ≠ .solitary → t.agreement = s.agreement)) ∧
      (upsets.apply = [] → upsets.survey = [] → upsets.plan = [] → upsets.started = [] →
        t.supervisor.lastAligned = g.aligned.filter (fun x => x ∈ codesOf t.table.slots) ∧
        t.agreement =
          (if s.agreement.lock = .solitary ∧
              ∃ e ∈ entriesOf t.table.slots, e.state = .tracked then
            { s.agreement with lock := .locked, loss := 0 }
          else if s.supervisor.condition = .acquiring ∧ t.supervisor.solitary = 16 then
            { s.agreement with lock := .solitary, acquisition := 0 }
          else s.agreement) ∧
        (s.supervisor.condition = .acquiring →
          t.supervisor.solitary =
            (if (entriesOf t.table.slots).all fun e => e.state = .parked then
              min 16 (s.supervisor.solitary + 1) else 0) ∧
          (t.supervisor.working = true ↔
            s.supervisor.working = true ∨ t.supervisor.solitary = 16 ∨
              (t.agreement.lock = .locked ∧
                ∃ x ∈ t.supervisor.lastAligned, x ∈ s.supervisor.lastAligned))))

/-- The second reversed self frame mean puts the station into FAULT with cause REVERSED, FLT high and
the demand 0, and leaves g_self as it was (R49, R166). At every boundary the mean is that of the frame's
figures (R47); g_self and its flag follow a positive mean of at least g_detect, smoothed, and stand
otherwise (R48); and the reversed count goes up at a reversed mean, back to 0 at any other, stands with
no mean, and gives the cause exactly when it reaches 2 (R49). -/
def Obligations.ReversedFaults : Prop :=
  (∀ (c : Settings) (g : CycleEdge) (kind : BoundaryKind) (upsets : BoundaryUpsets) (s : State),
    s.held = false → s.config = some c → s.edge = some g → g.boundary = some kind →
    0 < s.correlator.selfCount →
    roundDiv s.correlator.selfSum s.correlator.selfCount < 0 →
    c.gDetect ≤ (roundDiv s.correlator.selfSum s.correlator.selfCount).natAbs →
    s.correlator.reversed = 1 → s.supervisor.faultCause = none →
    ∃ t, exec (.frameBoundary upsets) s = .next t ∧ t.supervisor.condition = .fault ∧
      t.supervisor.faultCause = some .reversed ∧ t.correlator.reversed = 2 ∧
      t.correlator.gSelf = s.correlator.gSelf ∧ t.pins.flt = true ∧ t.pins.demand = 0 ∧
      t.regulation.staged = 0) ∧
  ∀ (c : Settings) (g : CycleEdge) (kind : BoundaryKind) (upsets : BoundaryUpsets) (s : State),
    s.held = false → s.config = some c → s.edge = some g → g.boundary = some kind →
    ∃ t, exec (.frameBoundary upsets) s = .next t ∧
      (s.correlator.selfCount = 0 →
        t.correlator.gSelf = s.correlator.gSelf ∧
        t.correlator.gSelfValid = s.correlator.gSelfValid ∧
        t.correlator.reversed = s.correlator.reversed ∧
        t.supervisor.faultCause = s.supervisor.faultCause) ∧
      ∀ mean, 0 < s.correlator.selfCount →
        mean = roundDiv s.correlator.selfSum s.correlator.selfCount →
        (0 < mean → c.gDetect ≤ mean →
          t.correlator.gSelfValid = true ∧
          (t.correlator.gSelf : Int) =
            if s.correlator.gSelfValid then
              max 0 (min 65535
                (s.correlator.gSelf + roundDiv (mean - s.correlator.gSelf) 4))
            else mean) ∧
        (mean ≤ 0 ∨ mean < c.gDetect →
          t.correlator.gSelf = s.correlator.gSelf ∧
          t.correlator.gSelfValid = s.correlator.gSelfValid) ∧
        (mean < 0 → c.gDetect ≤ -mean →
          t.correlator.reversed = min 2 (s.correlator.reversed + 1) ∧
          t.supervisor.faultCause =
            s.supervisor.faultCause.or
              (if 1 ≤ s.correlator.reversed then some .reversed else none)) ∧
        (0 ≤ mean ∨ -mean < c.gDetect →
          t.correlator.reversed = 0 ∧ t.supervisor.faultCause = s.supervisor.faultCause)

/-- A fault cause, once present, stands through every command but the resets, and holds the condition
FAULT (R166). -/
def Obligations.FaultStands : Prop :=
  ∀ (x : Instr) (f : FaultCause) (s t : State), StationOk s →
    (∀ sent, x ≠ .fullReset sent) → x ≠ .resetEnd → x ≠ .deviceRestart →
    exec x s = .next t → s.supervisor.faultCause = some f →
    t.supervisor.faultCause = some f ∧ t.supervisor.condition = .fault

/-! ### Surveys -/

/-- The serial order of generations, what it makes of a frame (with a valid record, newer exactly 1 to 7
ahead; with none, newer unless it shows generation 0 with kind NONE, which never is), and adoption:
the newest newer frame, from the lowest sender code of its generation, a frame that runs bringing 32
frames for each of its units; where no newer frame is unexceeded, as can be with a record not valid,
the lowest sender among them all (R136, R137). -/
def Obligations.NewestGenerationIsAdopted : Prop :=
  ((∀ a < 16, ∀ b < 16, ¬(generationAhead a b = true ∧ generationAhead b a = true)) ∧
  (∀ (v : Survey) (f : FrameRecord), v.generation < 16 → f.generation < 16 →
    (f.generation = 0 → f.kind = .none → v.isNewer f = false) ∧
    (f.generation ≠ 0 ∨ f.kind ≠ .none →
      (v.valid = false → v.isNewer f = true) ∧
      (v.valid = true →
        (v.isNewer f = true ↔
          ∃ d, 1 ≤ d ∧ d ≤ 7 ∧ f.generation = (v.generation + d) % 16))))) ∧
  ∀ (frames : List SurveyFrame) (v : Survey), v.generation < 16 →
    (∀ f ∈ frames, f.record.generation < 16) →
    ((∀ f ∈ frames, v.isNewer f.record = false) → v.adopt frames = v) ∧
    ((∃ f ∈ frames, v.isNewer f.record = true) →
      ∃ f ∈ frames, v.isNewer f.record = true ∧
        ((v.valid = true ∨
            ∃ y ∈ frames, v.isNewer y.record = true ∧
              ∀ x ∈ frames, v.isNewer x.record = true →
                generationAhead x.record.generation y.record.generation = false) →
          ∀ x ∈ frames, v.isNewer x.record = true →
            generationAhead x.record.generation f.record.generation = false ∧
            (x.record.generation = f.record.generation → f.sender ≤ x.sender)) ∧
        ((∀ y ∈ frames, v.isNewer y.record = true →
            ∃ x ∈ frames, v.isNewer x.record = true ∧
              generationAhead x.record.generation y.record.generation = true) →
          ∀ x ∈ frames, v.isNewer x.record = true → f.sender ≤ x.sender) ∧
        v.adopt frames =
          { v with
            valid := true, generation := f.record.generation, kind := f.record.kind,
            phase := f.record.phase,
            count :=
              match f.record.phase with
              | .over => 0
              | .pending => f.record.count
              | .running => 32 * f.record.count })

/-- The outcome of merging does not depend on the order of the frames: among the record and the frames
of its generation that show a survey, the lowest kind; of that kind, RUNNING with the smallest frames
remaining where any runs, else PENDING with the smallest count. A record of phase NONE stands (R138). -/
def Obligations.MergeIgnoresOrder : Prop :=
  (∀ (v : Survey) (xs ys : List SurveyFrame), xs.Perm ys → v.merge xs = v.merge ys) ∧
  (∀ (v : Survey) (xs : List SurveyFrame), v.phaseNow = .over → v.merge xs = v) ∧
  ∀ (v w : Survey) (xs same : List SurveyFrame) (left : SurveyFrame → Nat),
    v.valid = true → v.kind ≠ .none → v.phase ≠ .over → w = v.merge xs →
    same = xs.filter (fun f =>
      f.record.generation = v.generation ∧ f.record.kind ≠ .none ∧ f.record.phase ≠ .over) →
    left = (fun f => if f.record.phase = .running then 32 * f.record.count else f.record.count) →
    w = { v with kind := w.kind, phase := w.phase, count := w.count } ∧
    (w.kind = v.kind ∨ ∃ f ∈ same, w.kind = f.record.kind) ∧
    kindCode w.kind ≤ kindCode v.kind ∧
    (∀ f ∈ same, kindCode w.kind ≤ kindCode f.record.kind) ∧
    (w.phase = .pending ∨ w.phase = .running) ∧
    (w.phase = .running ↔
      (v.kind = w.kind ∧ v.phase = .running) ∨
        ∃ f ∈ same, f.record.kind = w.kind ∧ f.record.phase = .running) ∧
    (v.kind = w.kind → v.phase = w.phase → w.count ≤ v.count) ∧
    (∀ f ∈ same, f.record.kind = w.kind → f.record.phase = w.phase → w.count ≤ left f) ∧
    ((v.kind = w.kind ∧ v.phase = w.phase ∧ w.count = v.count) ∨
      ∃ f ∈ same, f.record.kind = w.kind ∧ f.record.phase = w.phase ∧ w.count = left f)

/-- A pending record starts when its count has run down, with the whole run of its kind, and a running one
is over, its generation and kind kept, when its remaining frames have (R139, R140). At a boundary the record
becomes what adoption, merging, the countdown and origination make of it in that order, from the frame
records of age 0 in the table as its work and the reads of regulation and the coordinator leave it, no entry
being struck after those, and none found failing by them counting (R71, R135), and the survey-running fact
follows the result (R161). -/
def Obligations.CountdownStartsAndEnds : Prop :=
  (∀ (v : Survey) (n : Nat), v.valid = true → v.kind ≠ .none → v.count = n + 1 →
    (v.phase = .pending →
      Survey.countDown^[n + 1] v =
        { v with
          phase := .running
          count := if v.kind = .interrupt then 512 else 256 }) ∧
    (v.phase = .running →
      Survey.countDown^[n + 1] v = { v with phase := .over, count := 0 })) ∧
  ∀ (c : Settings) (g : CycleEdge) (kind : BoundaryKind) (upsets : BoundaryUpsets) (s : State),
    s.held = false → s.config = some c → s.edge = some g → g.boundary = some kind →
    ∃ t, exec (.frameBoundary upsets) s = .next t ∧
      t.supervisor.surveyRunning =
        decide (t.survey.valid = true ∧ t.survey.phase = .running) ∧
      ∀ frames, upsets.plan = [] → upsets.started = [] →
        frames =
          (entriesOf t.table.slots).filterMap (fun e =>
            e.record.bind fun r =>
              if r.age = 0 then some { sender := e.code, record := r } else none) →
        t.survey = (((s.survey.adopt frames).merge frames).countDown).originate

/-- The requests that wait for a boundary are taken there, in every condition: HOLD sets and FREE clears
the hold flag, and a pending origination becomes the record, PENDING with its count, or cancelled for
kind NONE, its generation one on, or 1 from a record that is not valid (R141, R160, R174). After a load
that failed the supervisor still takes HOLD and FREE and no other block works; before the end of the
load nothing is taken (R156, R160, R161). -/
def Obligations.BoundaryTakesRequests : Prop :=
  (∀ v : Survey, v.origination ≠ none →
    v.originate.generation = if v.valid then (v.generation + 1) % 16 else 1) ∧
  (∀ (c : Settings) (g : CycleEdge) (b : BoundaryKind) (upsets : BoundaryUpsets) (s : State),
    s.held = false → s.config = some c → s.edge = some g → g.boundary = some b →
    ∃ t, exec (.frameBoundary upsets) s = .next t ∧ t.supervisor.pendingHold = none ∧
      (s.supervisor.pendingHold = some .hold → t.supervisor.hold = true) ∧
      (s.supervisor.pendingHold = some .free → t.supervisor.hold = false) ∧
      (s.supervisor.pendingHold = none → t.supervisor.hold = s.supervisor.hold) ∧
      t.survey.origination = none ∧
      ∀ kind n, s.survey.origination = some (kind, n) →
        t.survey.valid = true ∧ t.survey.kind = kind ∧
        (kind ≠ .none → t.survey.phase = .pending ∧ t.survey.count = n) ∧
        (kind = .none → t.survey.phase = .over ∧ t.survey.count = 0)) ∧
  ∀ (g : CycleEdge) (b : BoundaryKind) (upsets : BoundaryUpsets) (s : State), StationOk s →
    s.held = false → s.config = none → s.edge = some g → g.boundary = some b →
    ∃ t, exec (.frameBoundary upsets) s = .next t ∧
      t = { s with supervisor := t.supervisor, edge := some { g with boundary := none } } ∧
      (s.load ≠ .ended → t.supervisor = s.supervisor) ∧
      (s.load = .ended → s.supervisor.faultCause ≠ none →
        t.supervisor.pendingHold = none ∧ t.supervisor.condition = .fault ∧
        t.supervisor.alarms = s.supervisor.alarms ∧
        t.supervisor.hold =
          match s.supervisor.pendingHold with
          | some .hold => true
          | some .free => false
          | none => s.supervisor.hold)

/-! ### Conditions, MAINS and the supply -/

/-- The condition is the first line of the table of R152 whose test holds, and STARTING before the end
of a load that leaves the station in ACQUIRING. -/
def Obligations.ConditionFollowsFacts : Prop :=
  ∀ s : State, StationOk s →
    (s.config.isSome = true →
      s.supervisor.condition =
        (if s.supervisor.faultCause.isSome = true then .fault
         else if s.supervisor.brownout = true then .brownout
         else if s.supervisor.mains = false then .dark
         else if s.supervisor.working = false then .acquiring
         else if s.supervisor.surveyRunning = true then .survey
         else if s.supervisor.hold = true ∨ s.supervisor.warn = true then .holding
         else .regulating)) ∧
    (s.config = none → s.supervisor.faultCause = none → s.supervisor.condition = .starting)

/-- MAINS absent darkens a station unless FAULT or BROWNOUT overrides, with demand 0 and no window open;
MAINS present gives what the other facts give; the blocks that listen stand (R13, R162), and sampling and
the dwell go on through DARK (R31, R53), which counts as a moment of the cycle (R46). An open window that
loses its output is cut short and drops its unfinished interval, a sample already taken standing (R6, R25).
The keyed-throughout mark is lost with output within the keying span and stands after it (R14); at the very
start of a cycle it follows the condition entered (for a spell of no duration, log 31). The time moves to
the change's timer unit, and the demand that was in force until then is noted with its span (R15, log 11).
While a reset holds the device, the level alone is taken, for the reset's end to find (R151, R169, log 20). -/
def Obligations.MainsDarkensAndReturns : Prop :=
  (∀ (present : Bool) (unit : Nat) (s : State), s.held = true → s.config = none → StationOk s →
    exec (.mainsChange present unit) s =
      .next { s with supervisor := { s.supervisor with mains := present } }) ∧
  ∀ (present : Bool) (unit : Nat) (s : State), s.held = false → StationOk s →
    ∃ t, exec (.mainsChange present unit) s = .next t ∧ t.supervisor.mains = present ∧
      t.supervisor =
        { s.supervisor with
          mains := present
          condition := t.supervisor.condition
          solitary :=
            if t.supervisor.condition = .acquiring ∧ s.supervisor.condition ≠ .acquiring then 0
            else s.supervisor.solitary } ∧
      t = { s with
            timer := t.timer, keying := t.keying, front := t.front, correlator := t.correlator,
            supervisor := t.supervisor, pins := t.pins, edge := t.edge } ∧
      t.correlator =
        { s.correlator with
          darkSeen :=
            s.correlator.darkSeen ||
              decide (t.supervisor.condition = .dark ∧ s.supervisor.condition ≠ .dark) } ∧
      t.front = { s.front with offSum := t.front.offSum, offCount := t.front.offCount } ∧
      t.edge = (if t.timer.phase = s.timer.phase then s.edge else none) ∧
      t.timer =
        { s.timer with phase := t.timer.phase, window := t.timer.window } ∧
      t.timer.phase = max s.timer.phase (min s.timer.length (20 * s.ms + min unit 19)) ∧
      t.keying =
        { s.keying with
          keyed := t.keying.keyed
          segments :=
            if t.timer.phase = s.timer.phase then s.keying.segments
            else s.keying.segments ++ [(s.pins.demand, t.timer.phase - s.timer.phase)] } ∧
      (s.config.isSome = true → s.supervisor.faultCause = none → s.supervisor.brownout = false →
        (present = false →
          t.supervisor.condition = .dark ∧ t.pins.demand = 0 ∧ t.pins.offmark = false) ∧
        (present = true →
          t.supervisor.condition =
            (if s.supervisor.working = false then .acquiring
             else if s.supervisor.surveyRunning = true then .survey
             else if s.supervisor.hold = true ∨ s.supervisor.warn = true then .holding
             else .regulating))) ∧
      (s.config = none ∨ s.supervisor.faultCause ≠ none ∨ s.supervisor.brownout = true →
        t.supervisor.condition = s.supervisor.condition) ∧
      (s.timer.window = .opened → t.supervisor.condition.output = false →
        t.timer.window = .cutShort ∧ t.front.offSum = 0 ∧ t.front.offCount = 0) ∧
      (s.timer.window ≠ .opened ∨ t.supervisor.condition.output = true →
        t.timer.window = s.timer.window ∧ t.front.offSum = s.front.offSum ∧
        t.front.offCount = s.front.offCount) ∧
      (t.supervisor.condition ≠ s.supervisor.condition →
        (0 < t.timer.phase → t.timer.phase < 19200 →
          t.keying.keyed = (s.keying.keyed && t.supervisor.condition.output)) ∧
        (t.timer.phase = 0 → s.edge.isSome = true →
          t.keying.keyed = t.supervisor.condition.output)) ∧
      (19200 ≤ t.timer.phase ∨ t.supervisor.condition = s.supervisor.condition →
        t.keying.keyed = s.keying.keyed)

/-- BROWNOUT entry, by the low run or by the mean S of the cycle end just taken, outside FAULT: flags and
alarm set, working mark cleared, phase agreement UNLOCKED, the search lane waiting, sampling stopped, an
open window cut short, and the demand 0 (R6, R32, R37, R53, R80, R164). The keyed-throughout mark is lost in
the keying span and stands after it (R14). The millisecond in progress gives no sample of P, I and V; an
unfinished instant-off interval is dropped with its window, and a sample already taken stands, though the
broken cycle hands over none of its values (R25, R28, R32). Under FAULT the supervisor's own actions stand
alone, no other block changing and the mean S of the cycle end being used up (R165, log 21). Outside FAULT
too the entry uses up the mean S of its cycle end, by a run's entry by the model's choice (log 21). A warn
test of the instant still to come is over with the entry (log 36). -/
def Obligations.BrownoutEntrySilences : Prop :=
  ∀ (c : Settings) (s : State), StationOk s →
    s.held = false → s.config = some c → s.supervisor.brownout = false →
    ((s.supervisor.lowRun = 100 ∧ s.ms < min (s.timer.length / 20) 1280) ∨
      ∃ g m, s.edge = some g ∧ g.meanS = some m ∧ m < 900) →
    (s.supervisor.faultCause ≠ none →
      exec .brownoutEntry s =
        .next
          { s with
            supervisor :=
              { s.supervisor with
                brownout := true, warn := true, working := false, lowRun := 0, highRun := 0,
                alarms := { s.supervisor.alarms with supply := true } }
            pins := { s.pins with alm := true }
            edge := s.edge.map fun g => { g with meanS := none, warnDue := none } }) ∧
    (s.supervisor.faultCause = none →
      ∃ t, exec .brownoutEntry s = .next t ∧ t.supervisor.condition = .brownout ∧
        t.supervisor =
          { s.supervisor with
            condition := .brownout, brownout := true, warn := true, working := false, lowRun := 0,
            highRun := 0, alarms := { s.supervisor.alarms with supply := true } } ∧
        t.agreement = { s.agreement with lock := .unlocked, acquisition := 0, loss := 0 } ∧
        t.correlator =
          { s.correlator with
            xpSelf := none, residual := none, waiting := true, dwellSum := 0, dwellCount := 0 } ∧
        t = { s with
              timer := t.timer, keying := t.keying, front := t.front, correlator := t.correlator,
              agreement := t.agreement, supervisor := t.supervisor, pins := t.pins,
              edge := t.edge } ∧
        t.front =
          { s.front with
            unbroken := false, whole := false
            offSum := if s.timer.window = .opened then 0 else s.front.offSum
            offCount := if s.timer.window = .opened then 0 else s.front.offCount } ∧
        t.keying = { s.keying with keyed := t.keying.keyed } ∧
        (s.timer.phase < 19200 → t.keying.keyed = false) ∧
        (19200 ≤ s.timer.phase → t.keying.keyed = s.keying.keyed) ∧
        t.timer =
          { s.timer with
            window := if s.timer.window = .opened then .cutShort else s.timer.window } ∧
        t.edge = (s.edge.map fun g => { g with meanS := none, warnDue := none }) ∧
        t.pins.demand = 0 ∧ t.pins.offmark = false ∧ t.pins.alm = true ∧
        t.table = s.table ∧ t.frames = s.frames ∧ t.regulation = s.regulation ∧
        t.survey = s.survey ∧ t.capture = s.capture ∧ t.service = s.service ∧
        t.config = s.config)

/-- BROWNOUT exit, by the high run or by the mean S of the cycle end just taken, outside FAULT: the flag
cleared, both runs 0, the relock span of 8 cycles set, and the condition ACQUIRING, or DARK with MAINS
absent (R81, R165). Sampling starts at the next whole millisecond and the cycle in flight stays not complete
(R32); that this holds too of the cycle that starts at the exit's own instant is the model's choice (log
27). Under FAULT only the flag and both runs clear, no relock span is set, and the mean S of the cycle end
is used up (R165, log 21). The warn flag stands as its own test of the cycle end left it, clear too where
one mean S passes both recovery levels (R163 before R165, log 39). The solitary count is 0 in the ACQUIRING
entered; that it stands where MAINS is absent and the exit passes on to DARK is the model's choice (R153
with R165, log 37). The other facts and the correlator stand, the search lane waiting on until the relock
span ends (R53), but that DARK counts as a moment of the cycle (R46). The keyed-throughout mark is lost in
the keying span and stands after it (R14); at the very start of a cycle it follows the condition entered
(log 27). The mean S of the cycle end is used up, by a run's exit by the model's choice (log 21). -/
def Obligations.BrownoutExitRelocks : Prop :=
  ∀ (c : Settings) (s : State),
    s.held = false → s.config = some c → s.supervisor.brownout = true →
    ((s.supervisor.highRun = 100 ∧ s.ms < min (s.timer.length / 20) 1280) ∨
      ∃ g m, s.edge = some g ∧ g.meanS = some m ∧ 950 ≤ m) →
    (s.supervisor.faultCause ≠ none → StationOk s →
      exec .brownoutExit s =
        .next
          { s with
            supervisor := { s.supervisor with brownout := false, lowRun := 0, highRun := 0 }
            edge := s.edge.map fun g => { g with meanS := none } }) ∧
    (s.supervisor.faultCause = none → s.supervisor.working = false →
      ∃ t, exec .brownoutExit s = .next t ∧
        t.supervisor =
          { s.supervisor with
            condition := if s.supervisor.mains then .acquiring else .dark
            brownout := false, lowRun := 0, highRun := 0, solitary := t.supervisor.solitary } ∧
        t.agreement = { s.agreement with relock := 8 } ∧
        t.edge = (s.edge.map fun g => { g with meanS := none }) ∧
        t = { s with
              timer := t.timer, keying := t.keying, front := t.front, correlator := t.correlator,
              agreement := t.agreement, supervisor := t.supervisor, pins := t.pins,
              edge := t.edge } ∧
        (s.supervisor.condition = .brownout →
          t.supervisor.solitary = (if s.supervisor.mains then 0 else s.supervisor.solitary) ∧
          t.correlator =
            { s.correlator with darkSeen := s.correlator.darkSeen || !s.supervisor.mains } ∧
          t.keying =
            { s.keying with
              keyed :=
                if s.timer.phase = 0 ∧ s.edge.isSome = true then s.supervisor.mains
                else if s.timer.phase < 19200 then s.keying.keyed && s.supervisor.mains
                else s.keying.keyed } ∧
          (s.front.unbroken = false → s.timer.window ≠ .opened →
            t.timer = s.timer ∧
            t.front =
              { s.front with
                unbroken := false, whole := decide (s.timer.phase % 20 = 0) })))

/-! ### The service line -/

/-- A character that is not a carriage return, with the line ready: stored while there is room, the
33rd marks the line overlong, a line feed is discarded, and a framing error marks the line bad (R170,
R171), whatever bits were read and however full the buffer (log 32). -/
def Obligations.CharactersFillBuffer : Prop :=
  ∀ (b : Byte) (s : State), serviceReady s = true → s.pins = pinsNow s →
    exec (.characterReceived b false) s =
      .next { s with service := { s.service with badCharacter := true } } ∧
    exec (.characterReceived 0x0A#8 true) s = .next s ∧
    (b ≠ 0x0D#8 → b ≠ 0x0A#8 →
      (s.service.overlong = false → s.service.buffer.length < 32 →
        exec (.characterReceived b true) s =
          .next { s with service := { s.service with buffer := s.service.buffer ++ [b] } }) ∧
      (s.service.overlong = false → 32 ≤ s.service.buffer.length →
        exec (.characterReceived b true) s =
          .next { s with service := { s.service with overlong := true } }) ∧
      (s.service.overlong = true → exec (.characterReceived b true) s = .next s))

/-- A carriage return takes the line: overlong gives ?LONG, else a bad character gives ?ERR, a blank
line gives nothing, a line that names a command is that command's event, and any other gives ?ERR
(R171, R172). That the event of the line and the row of the table are one command is read from the
table's rows (log 16). The words of a line are its runs of characters other than spaces, a number is
decimal digits only, and a line names a command exactly by R172's table, whose ranges are tested
after it. -/
def Obligations.CarriageReturnTakesLine : Prop :=
  (wordsOf [] = [] ∧ (∀ line, wordsOf (' ' :: line) = wordsOf line) ∧
    ∀ w : Text, w ≠ [] → ' ' ∉ w →
      wordsOf w = [w] ∧ ∀ line, wordsOf (w ++ ' ' :: line) = w :: wordsOf line) ∧
  (∀ (w : Text) (n : Nat),
    numberOf w = some n ↔
      w ≠ [] ∧ (∀ ch ∈ w, 48 ≤ ch.toNat ∧ ch.toNat ≤ 57) ∧
        n = Nat.ofDigits 10 (w.reverse.map fun ch => ch.toNat - 48)) ∧
  (∀ (w : Text) (k : SurveyKind),
    kindOf w = some k ↔
      (w, k) ∈
        [("INTERRUPT".toList, SurveyKind.interrupt), ("DEPOLARIZE".toList, .depolarize),
          ("FREEZE".toList, .freeze), ("NONE".toList, .none)]) ∧
  (∀ (words : List Text) (k : ServiceCommand),
    commandOf words = some k ↔
      (∃ w, words = [w] ∧
        (w, k) ∈
          [("STATUS".toList, ServiceCommand.status), ("TABLE".toList, .table),
            ("HOLD".toList, .hold), ("FREE".toList, .free), ("CLEAR".toList, .clear),
            ("RESTART".toList, .restart)]) ∨
      (∃ a n, words = ["CAPT".toList, a] ∧ numberOf a = some n ∧ k = .capt n) ∨
      ∃ a b kind n, words = ["SURVEY".toList, a, b] ∧ kindOf a = some kind ∧
        numberOf b = some n ∧ k = .survey kind n) ∧
  ∀ (s : State) (words : List Text), serviceReady s = true → s.pins = pinsNow s →
    words = wordsOf (bufferText s.service.buffer) →
    (s.service.overlong = true →
      exec (.characterReceived 0x0D#8 true) s = .next (replying ["?LONG".toList] s)) ∧
    (s.service.overlong = false → s.service.badCharacter = true →
      exec (.characterReceived 0x0D#8 true) s = .next (replying ["?ERR".toList] s)) ∧
    (s.service.overlong = false → s.service.badCharacter = false →
      (words = [] →
        exec (.characterReceived 0x0D#8 true) s =
          .next { s with service := { s.service with buffer := [] } }) ∧
      (∀ k, commandOf words = some k →
        exec (.characterReceived 0x0D#8 true) s = exec (rowOf k) s) ∧
      (words ≠ [] → commandOf words = none →
        exec (.characterReceived 0x0D#8 true) s = .next (replying ["?ERR".toList] s)))

/-- While a reply is in progress or a restart pending, characters and commands leave the device as it
is. With the line ready, a command whose number is out of range gets ?ERR in every condition, one in
range is refused with ?STATE in the conditions of R173, and a refused command has no effect
(R170, R172, R173, R178). -/
def Obligations.RefusalsHaveNoEffect : Prop :=
  (∀ (b : Byte) (stop : Bool) (k : ServiceCommand) (s : State),
    s.service.reply ≠ none ∨ s.service.pendingRestart = true →
    exec (.characterReceived b stop) s = .next s ∧ exec (rowOf k) s = .next s) ∧
  ∀ (k : ServiceCommand) (s : State), serviceReady s = true → s.pins = pinsNow s →
    ((∃ n, k = .capt n ∧ (n = 0 ∨ 64 < n)) ∨ (∃ x n, k = .survey x n ∧ (n = 0 ∨ 31 < n)) →
      exec (rowOf k) s = .next (replying ["?ERR".toList] s)) ∧
    ((s.supervisor.condition = .starting ∧
        (k = .table ∨ k = .hold ∨ k = .free ∨ k = .clear ∨ k = .restart ∨
          ∃ n, k = .capt n ∧ 1 ≤ n ∧ n ≤ 64)) ∨
      (s.supervisor.condition ∉ [Condition.regulating, Condition.holding, Condition.survey] ∧
        ∃ x n, k = .survey x n ∧ 1 ≤ n ∧ n ≤ 31) →
      exec (rowOf k) s = .next (replying ["?STATE".toList] s))

/-- STATUS is accepted in every condition and changes nothing but the service line, whose reply is the
status line, and the transmit line that carries it with its carriage return and line feed (R170, R172,
R173, R175, R182). The line's fields stand in R182's order, joined by single spaces, a signed one with its
sign and an absent one as a hyphen. The order of the alarms' names, and the phase NONE and the set current
as they are written, are the model's reading (log 18, log 22). -/
def Obligations.StatusOnlyReports : Prop :=
  (∀ s : State, serviceReady s = true → s.pins = pinsNow s →
    exec .status s =
      .next { s with
        service := answered [statusLine s] s
        pins := { s.pins with txd := .sending (statusLine s ++ ['\r', '\n']) } }) ∧
  ∀ (s : State) (num : Nat → Text) (signed : Int → Text) (latched : List Text),
    num = Nat.toDigits 10 →
    signed = (fun x => (if x < 0 then '-' else '+') :: num x.natAbs) →
    latched =
      ([(s.supervisor.alarms.floor, "FLOOR"), (s.supervisor.alarms.ilimit, "ILIMIT"),
        (s.supervisor.alarms.vlimit, "VLIMIT"), (s.supervisor.alarms.noself, "NOSELF"),
        (s.supervisor.alarms.stage, "STAGE"), (s.supervisor.alarms.supply, "SUPPLY"),
        (s.supervisor.alarms.table, "TABLE"),
        (s.supervisor.alarms.capdrop, "CAPDROP")].filter Prod.fst).map (fun x => x.2.toList) →
    (∀ i, s.regulation.setCurrent = some i → 0 ≤ i) →
    statusLine s = [' '].intercalate
      ([['S'],
        (match s.supervisor.condition, s.supervisor.faultCause with
          | .fault, some .config => "FAULT/CONFIG"
          | .fault, some .reversed => "FAULT/REVERSED"
          | .fault, none => "FAULT"
          | .starting, _ => "STARTING"
          | .acquiring, _ => "ACQUIRING"
          | .regulating, _ => "REGULATING"
          | .holding, _ => "HOLDING"
          | .survey, _ => "SURVEY"
          | .dark, _ => "DARK"
          | .brownout, _ => "BROWNOUT").toList,
        (match s.agreement.lock with
          | .unlocked => "UNLOCKED"
          | .locked => "LOCKED"
          | .solitary => "SOLITARY").toList,
        num s.timer.position,
        (match s.regulation.setCurrent with
          | some i => num i.natAbs
          | none => ['-']),
        signed s.regulation.staged,
        (match s.regulation.frameMean with
          | some m => signed m
          | none => ['-']),
        if s.correlator.gSelfValid then num s.correlator.gSelf else ['-']] ++
      (if s.survey.valid then
        ['G' :: num s.survey.generation,
          (match s.survey.kind with
            | .none => "NONE"
            | .interrupt => "INTERRUPT"
            | .depolarize => "DEPOLARIZE"
            | .freeze => "FREEZE").toList,
          (match s.survey.phase with
            | .over => "NONE"
            | .pending => "PENDING"
            | .running => "RUNNING").toList,
          num s.survey.count]
       else [['N']]) ++
      [if latched = [] then "NONE".toList else [','].intercalate latched,
        num s.regulation.noMeasure, num s.table.errors, num s.capture.records.length,
        num s.capture.drops,
        (match s.front.lastMeanS with
          | some m => num m
          | none => ['-'])])

/-- CAPT takes the oldest n records, or all where there are fewer, and replies with their lines and
OK (R177); a record's line gives its fields in R182's order (R147, R182). -/
def Obligations.CaptTakesOldest : Prop :=
  (∀ (n : Nat) (s : State), serviceReady s = true → s.pins = pinsNow s →
    s.supervisor.condition ≠ .starting → 1 ≤ n → n ≤ 64 →
    ∃ taken rest, s.capture.records = taken ++ rest ∧
      taken.length = min n s.capture.records.length ∧
      exec (.capt n) s =
        .next { replying (taken.map captureLine ++ ["OK".toList]) s with
          capture := { s.capture with records := rest } }) ∧
  ∀ (r : CaptureRecord) (num : Nat → Text) (signed : Int → Text),
    num = Nat.toDigits 10 →
    signed = (fun x => (if x < 0 then '-' else '+') :: num x.natAbs) →
    captureLine r = [' '].intercalate
      [['C'], num r.sequence, num r.generation, num r.position,
        (match r.instantOff with
          | some x => signed x
          | none => ['-']),
        signed r.onPotential, num r.meanCurrent,
        [if r.disturbed then 'D' else 'U', if r.overrange then 'O' else 'N']]

/-- HOLD, FREE, SURVEY and RESTART are answered OK and change nothing else but the request they leave
pending (R174, R178). -/
def Obligations.RequestsStayPending : Prop :=
  ∀ s : State, serviceReady s = true → s.pins = pinsNow s →
    (s.supervisor.condition ≠ .starting →
      exec .hold s = .next { replying ["OK".toList] s with
        supervisor := { s.supervisor with pendingHold := some .hold } } ∧
      exec .free s = .next { replying ["OK".toList] s with
        supervisor := { s.supervisor with pendingHold := some .free } } ∧
      exec .restart s = .next { replying ["OK".toList] s with
        service := { answered ["OK".toList] s with pendingRestart := true } }) ∧
    (s.supervisor.condition ∈ [Condition.regulating, Condition.holding, Condition.survey] →
      ∀ kind n, 1 ≤ n → n ≤ 31 →
        exec (.survey kind n) s = .next { replying ["OK".toList] s with
          survey := { s.survey with origination := some (kind, n) } })

/-- CLEAR clears each latched alarm whose cause is not present and leaves the others, and ALM shows
what is left (R167, R168). -/
def Obligations.ClearKeepsPresentCauses : Prop :=
  ∀ s : State, serviceReady s = true → s.supervisor.condition ≠ .starting →
    ∃ t, exec .clear s = .next t ∧
      t = { s with
            supervisor := { s.supervisor with alarms := t.supervisor.alarms }
            service := answered ["OK".toList] s, pins := t.pins } ∧
      t.supervisor.alarms =
        { floor := s.supervisor.alarms.floor && s.regulation.floor
          ilimit := s.supervisor.alarms.ilimit && s.regulation.ilimit
          vlimit := s.supervisor.alarms.vlimit && s.regulation.vlimit
          noself := s.supervisor.alarms.noself && s.regulation.noself
          stage := s.supervisor.alarms.stage && s.keying.stage
          supply := s.supervisor.alarms.supply && s.supervisor.warn
          table := false
          capdrop := s.supervisor.alarms.capdrop && decide (512 ≤ s.capture.records.length) } ∧
      t.pins.alm = t.supervisor.alarms.any ∧ t.pins.txd = .sending ['O', 'K', '\r', '\n']

/-- TABLE begins a reply; each read sends the line of the next good entry, or the closing line after the
last slot, and an entry that fails its check is removed with its alarm; the reply's end frees the line,
whose level is then high (R71, R170, R172, R176). An upset strikes at the command that brings it (log 6):
the reads of a cycle end remove every entry that fails and no other, and the boundary's work every one that
has failed by then, its slot left empty or to a new entry; what is struck before the reads of regulation and
the coordinator, or as the new cycle starts, is gone after the arbitration; each failure is counted once and
latches TABLE (R70 to R72); a TABLE_LINE_READ passes empty slots and failing entries, each of which it
removes, freeing its lane and dropping its watch at once, and sends the line it then comes to (R44, R71,
R102, R176). The transmit line carries each line with a carriage return and a line feed, and with the
reply's end all of it has been sent (R182). A restart pending at that end is left to DEVICE_RESTART, by the
model's choice (R178, log 30). An entry's line and the closing line give their fields in R182's order; the
flags as 0 or 1 and the phase NONE are the model's reading (log 22). -/
def Obligations.TableReplyRuns : Prop :=
  (∀ lines : List Text, wireText lines = lines.flatMap fun line => line ++ ['\r', '\n']) ∧
  (∀ (slot sent errors : Nat) (e : Entry) (num : Nat → Text) (signed : Int → Text)
      (kind : SurveyKind → Text),
    num = Nat.toDigits 10 →
    signed = (fun x => (if x < 0 then '-' else '+') :: num x.natAbs) →
    kind = (fun k =>
      (match k with
        | .none => "NONE"
        | .interrupt => "INTERRUPT"
        | .depolarize => "DEPOLARIZE"
        | .freeze => "FREEZE").toList) →
    closingLine sent errors = [' '].intercalate [['E'], num sent, num errors] ∧
    entryLine slot e = [' '].intercalate
      ([['T'], num slot, num e.code,
        (match e.state with
          | .candidate => "CANDIDATE"
          | .tracked => "TRACKED"
          | .parked => "PARKED").toList,
        (match e.lane with
          | some lane => num lane
          | none => ['-']),
        if e.gValid then num e.g else num e.g ++ ['D'],
        num e.age, num e.low, num e.discarded,
        (match e.offset with
          | some q => num q.offset ++ ['@'] ++ num q.count
          | none => ['-'])] ++
      (match e.record with
        | some r =>
          [(match r.condition with
              | .acquiring => "ACQUIRING"
              | .regulating => "REGULATING"
              | .holding => "HOLDING"
              | .survey => "SURVEY").toList,
            signed r.step, num r.generation, kind r.kind,
            (match r.phase with
              | .over => "NONE"
              | .pending => "PENDING"
              | .running => "RUNNING").toList,
            num r.count, [if r.limit then '1' else '0'], [if r.health then '1' else '0'],
            num r.age]
        | none => [['-']]))) ∧
  (∀ s : State, serviceReady s = true → s.pins = pinsNow s →
    s.supervisor.condition ≠ .starting →
    exec .table s = .next { s with
      service := { answered [] s with
        reply := some { lines := [], cursor := some { slot := 0, sent := 0 } } }
      pins := { s.pins with txd := .sending [] } }) ∧
  (∀ (lines : List Text) (slot sent : Nat) (upset : List Nat) (s : State),
    s.held = false → s.pins = pinsNow s → s.table.slots.length = 8 → slot ≤ 8 →
    s.service.reply = some { lines := lines, cursor := some { slot := slot, sent := sent } } →
    (∀ (j errors : Nat) (failed : List Entry) (line : Text) (cursor : Option TableCursor),
      slot ≤ j → j ≤ 8 →
      (∀ i e, slot ≤ i → i < j → s.table.slots[i]? = some (some e) →
        e.parityGood = false ∨ i ∈ upset) →
      failed = entriesOf ((s.table.slots.take j).drop slot) →
      errors =
        (if failed = [] then s.table.errors else min 255 (s.table.errors + failed.length)) →
      ((∃ e, s.table.slots[j]? = some (some e) ∧ e.parityGood = true ∧ j ∉ upset ∧
          line = entryLine j e ∧ cursor = some { slot := j + 1, sent := sent + 1 }) ∨
        (j = 8 ∧ line = closingLine sent errors ∧ cursor = none)) →
      ∃ t, exec (.tableLineRead upset) s = .next t ∧
        t = { s with
              correlator := t.correlator, table := t.table, frames := t.frames,
              supervisor := t.supervisor, service := t.service, pins := t.pins } ∧
        t.table.errors = errors ∧ t.table.slots.length = 8 ∧
        (∀ k < 8, t.table.slots[k]? =
          if slot ≤ k ∧ k < j then some none else (upsetEntries upset s).table.slots[k]?) ∧
        t.correlator =
          { s.correlator with
            lanes := s.correlator.lanes.map fun lane =>
              lane.filter fun code => decide (code ∉ failed.map Entry.code) } ∧
        t.frames = { s.frames with watches := t.frames.watches } ∧
        (∀ k, t.frames.watches[k]? =
          if some (k + 1) ∈ failed.map Entry.lane then s.frames.watches[k]?.map fun _ => none
          else s.frames.watches[k]?) ∧
        t.supervisor =
          { s.supervisor with
            alarms :=
              { s.supervisor.alarms with
                table := s.supervisor.alarms.table || decide (failed ≠ []) } } ∧
        t.service =
          { s.service with reply := some { lines := lines ++ [line], cursor := cursor } } ∧
        t.pins =
          { s.pins with
            alm := s.pins.alm || decide (failed ≠ [])
            txd := .sending (wireText (lines ++ [line])) }) ∧
    (∀ e, s.table.slots[slot]? = some (some e) → e.parityGood = false ∨ slot ∈ upset →
      ∃ t, exec (.tableLineRead upset) s = .next t ∧ t.table.slots[slot]? = some none ∧
        min 255 (s.table.errors + 1) ≤ t.table.errors ∧ t.supervisor.alarms.table = true ∧
        t.pins.alm = true)) ∧
  (∀ (lines : List Text) (s : State), s.held = false → s.pins = pinsNow s →
    s.service.reply = some { lines := lines, cursor := none } →
    exec .replyEnd s = .next { s with
      wire := wireText lines, service := { s.service with reply := none }
      pins := { s.pins with txd := .high } }) ∧
  ∀ (failing : List Nat → List Nat) (s : State), s.held = false →
    (∀ struck, failing struck =
      (List.range s.table.slots.length).filter fun k =>
        (s.table.slots.getD k none).any fun e => !e.parityGood || decide (k ∈ struck)) →
    (∀ (inputs : CycleInputs) (failed : List Nat), failed = failing (inputs.ended ++ inputs.started) →
      ∃ t, exec (.cycleEnd inputs) s = .next t ∧
        t.table.slots.map (Option.map Entry.code) =
          (s.table.slots.zipIdx.map fun (o, k) => if k ∈ failed then none else o.map Entry.code) ∧
        t.table.errors =
          (if failed = [] then s.table.errors else min 255 (s.table.errors + failed.length)) ∧
        t.supervisor.alarms.table = (s.supervisor.alarms.table || decide (failed ≠ [])) ∧
        (failed ≠ [] → t.pins.alm = true)) ∧
    ∀ (c : Settings) (g : CycleEdge) (kind : BoundaryKind) (upsets : BoundaryUpsets)
        (failed late lost : List Nat),
      s.config = some c → s.edge = some g → g.boundary = some kind →
      failed = failing upsets.work →
      late = upsets.apply ++ upsets.survey ++ upsets.plan ++ upsets.started →
      ∃ w t, exec (.frameBoundary { work := upsets.work }) s = .next w ∧
        exec (.frameBoundary upsets) s = .next t ∧
        (∀ k ∈ failed, ∀ x, w.table.slots[k]? = some (some x) →
          x.age = 0 ∧ x.gValid = false ∧ x.discarded = 0 ∧ x.record = none) ∧
        w.table.errors =
          (if failed = [] then s.table.errors else min 255 (s.table.errors + failed.length)) ∧
        w.supervisor.alarms.table = (s.supervisor.alarms.table || decide (failed ≠ [])) ∧
        (lost = (List.range w.table.slots.length).filter (fun k =>
            decide (k ∈ late) && (w.table.slots.getD k none).isSome) →
          t.table =
            { slots :=
                w.table.slots.zipIdx.map fun (o, k) => if k ∈ late then none else o
              errors :=
                if lost = [] then w.table.errors
                else min 255 (w.table.errors + lost.length) } ∧
          t.frames.watches =
            dropWatches
              (lost.filterMap fun k => (w.table.slots.getD k none).bind Entry.lane)
              w.frames.watches ∧
          t.supervisor.alarms.table = (w.supervisor.alarms.table || decide (lost ≠ [])) ∧
          (failed ≠ [] ∨ lost ≠ [] → t.pins.alm = true))

/-! ### The frame on the pipe -/

/-- The check register of R95: it starts at 0, takes the places one at a time, and stands at 0 after a
frame with its own check, which a built frame carries top place first. -/
def Obligations.CheckRegisterEndsZero : Prop :=
  checkOf [] = 0 ∧
  (∀ (places : List Bool) (b : Bool), checkOf (places ++ [b]) = checkStep (checkOf places) b) ∧
  (∀ r < 16, ∀ b : Bool,
    checkStep r b = if (b ^^ r.testBit 3) then (2 * r % 16) ^^^ 3 else 2 * r % 16) ∧
  ∀ (x : Condition) (step : Int) (v : Survey) (limit health : Bool) (frame : List Bool) (k : Nat),
    frame = buildFrame x step v limit health → k = checkOf (frame.take 28) →
    frame.length = 32 ∧ k < 16 ∧
      frame.drop 28 = [k.testBit 3, k.testBit 2, k.testBit 1, k.testBit 0] ∧ checkOf frame = 0

/-- What a station builds, a listener reads: a frame heard whole, or with any one of its places erased,
is valid and gives back its fields (R94, R98 to R100, R179, R180), the places of each being R180's, most
significant first, the step in two's complement; DARK, BROWNOUT and FAULT show condition 0 (R94). Any 32
places are a valid frame exactly with the start pattern, a check register that ends at 0, a step other than
-256 and a survey combination of R99, and give the fields at R180's places (R98, R99); with one place erased
exactly where one of the two trials is (R100), and with two or more never (R101). -/
def Obligations.FrameHeardAsBuilt : Prop :=
  (∀ (x : Condition) (step : Int) (v : Survey) (limit health : Bool) (record : FrameRecord)
      (bits : Nat → Nat → List Bool),
    -255 ≤ step → step ≤ 255 → surveyInRange v = true →
    bits = (fun width n => (List.range width).reverse.map n.testBit) →
    record =
      { condition :=
          match x with
          | .regulating => .regulating
          | .holding => .holding
          | .survey => .survey
          | _ => .acquiring
        step := step
        generation := if v.valid then v.generation else 0
        kind := if v.phaseNow = .over then .none else v.kind
        phase := v.phaseNow
        count :=
          match v.phaseNow with
          | .over => 0
          | .pending => v.count
          | .running => (v.count + 31) / 32
        limit := limit, health := health, age := 0 } →
    v.phaseNow = (if v.valid then v.phase else .over) ∧
      (buildFrame x step v limit health).take 28 =
        [true, true, false] ++
        (match x with
        | .regulating => [false, true]
        | .holding => [true, false]
        | .survey => [true, true]
        | _ => [false, false]) ++
        bits 9 (if 0 ≤ step then step else 512 + step).toNat ++ bits 4 record.generation ++
        (match record.kind with
        | .none => [false, false]
        | .interrupt => [false, true]
        | .depolarize => [true, false]
        | .freeze => [true, true]) ++
        [decide (record.phase = .running)] ++ bits 5 record.count ++ [limit, health] ∧
      frameTest ((buildFrame x step v limit health).map some) = some record ∧
      ∀ k < 32,
        frameTest (((buildFrame x step v limit health).map some).set k none) = some record) ∧
  (∀ history : List (Option Bool),
    2 ≤ (history.filter Option.isNone).length → frameTest history = none) ∧
  ∀ (places : List Bool) (field : Nat → Nat → Nat) (formed : Prop), places.length = 32 →
    field = (fun start width =>
      Nat.ofDigits 2 (((places.drop start).take width).reverse.map Bool.toNat)) →
    (formed ↔
      places.take 3 = [true, true, false] ∧ checkOf places = 0 ∧ field 5 9 ≠ 256 ∧
        ((field 18 2 = 0 ∧ field 20 1 = 0 ∧ field 21 5 = 0) ∨
          (1 ≤ field 18 2 ∧ field 20 1 = 0 ∧ 1 ≤ field 21 5) ∨
          (1 ≤ field 18 2 ∧ field 20 1 = 1 ∧ 1 ≤ field 21 5 ∧ field 21 5 ≤ 16))) →
    (¬formed → frameTest (places.map some) = none) ∧
    (formed →
      frameTest (places.map some) =
        some
          { condition :=
              [FrameCondition.acquiring, .regulating, .holding, .survey].getD (field 3 2) .acquiring
            step := if field 5 9 < 256 then (field 5 9 : Int) else (field 5 9 : Int) - 512
            generation := field 14 4
            kind := [SurveyKind.none, .interrupt, .depolarize, .freeze].getD (field 18 2) .none
            phase :=
              if field 18 2 = 0 then .over else if field 20 1 = 0 then .pending else .running
            count := field 21 5
            limit := decide (field 26 1 = 1), health := decide (field 27 1 = 1), age := 0 }) ∧
    ∀ k < 32, ∀ r,
      (frameTest ((places.map some).set k none) = some r ↔
        (frameTest ((places.set k false).map some) = some r ∧
            frameTest ((places.set k true).map some) = none) ∨
          (frameTest ((places.set k false).map some) = none ∧
            frameTest ((places.set k true).map some) = some r))

/-! ### Invariants -/

/-- The device after reset meets every invariant below. -/
def Obligations.ResetMeetsInvariants : Prop :=
  StationOk State.reset ∧ TimerOk State.reset ∧ LoadOk State.reset ∧ TableOk State.reset ∧
    CurrentOk State.reset ∧ CaptureOk State.reset

/-- Every step keeps the condition at what the facts give, the window within output, and the pins as
the state gives them (R6, R7, R13, R152, R153, R166, R167). -/
def Obligations.StepKeepsStation : Prop :=
  ∀ s t : State, StationOk s → step s = .next t → StationOk t

/-- Every step keeps the timer within its cycle and its ranges (R1 to R3), and the capture store within
512 records and its counters within their widths (R147). -/
def Obligations.StepKeepsTimerAndCapture : Prop :=
  ∀ s t : State, step s = .next t →
    (TimerOk s → TimerOk t) ∧ (CaptureOk s → CaptureOk t)

/-- Every step keeps a configuration to devices whose load has ended, and the table of R56: eight
slots, distinct codes without the own code, an entry TRACKED exactly when bound, each lane bound to
at most one. -/
def Obligations.StepKeepsTable : Prop :=
  ∀ s t : State, LoadOk s → TableOk s → step s = .next t → LoadOk t ∧ TableOk t

/-- Every step keeps the set current within its range, but for K with the resume current held while a
DEPOLARIZE survey runs (R11, R125, R130, R131). -/
def Obligations.StepKeepsCurrent : Prop :=
  ∀ s t : State, CurrentOk s → step s = .next t → CurrentOk t

/-- The demand of a station with output is ten times the set current, and in the keying span ten times K
more or less by the own code's chip and the data bit (R12). It is never negative and never above
I_max + K, and is 0 without output, in an OFF window and while a reset holds the device (R11, R13, R18). -/
def Obligations.DemandStaysBounded : Prop :=
  ∀ s : State, StationOk s →
    (∀ c i, s.held = false → s.config = some c → s.regulation.setCurrent = some i →
      s.timer.window ≠ .opened →
      s.supervisor.condition ∈
        [Condition.acquiring, Condition.regulating, Condition.holding, Condition.survey] →
      (s.timer.phase < 19200 →
        s.pins.demand =
          10 * i + 10 * c.depth *
            chip c.ownCode (chipIndex c.order s.timer.position (s.timer.phase / 300)) *
            (if s.keying.dataBit then -1 else 1)) ∧
      (19200 ≤ s.timer.phase → s.pins.demand = 10 * i)) ∧
    (CurrentOk s → ∀ c, s.config = some c →
      0 ≤ s.pins.demand ∧ s.pins.demand ≤ 10 * c.iMax + 10 * c.depth) ∧
    (s.held = true ∨ s.timer.window = .opened ∨
        s.supervisor.condition ∉
          [Condition.acquiring, Condition.regulating, Condition.holding, Condition.survey] →
      s.pins.demand = 0)
end

