-- ==== Sys2Proof/Laws/State.lean ====
section
/-! SUPPORT. One lemma per named update of the state: every field after it. -/

namespace Sys2Proof.Machine

@[simp] theorem State.setTimer_fields (x : Timer) (s : State) :
    (s.setTimer x).held = s.held ∧
      (s.setTimer x).load = s.load ∧
      (s.setTimer x).lines = s.lines ∧
      (s.setTimer x).bus = s.bus ∧
      (s.setTimer x).wire = s.wire ∧
      (s.setTimer x).config = s.config ∧
      (s.setTimer x).timer = x ∧
      (s.setTimer x).keying = s.keying ∧
      (s.setTimer x).front = s.front ∧
      (s.setTimer x).correlator = s.correlator ∧
      (s.setTimer x).table = s.table ∧
      (s.setTimer x).frames = s.frames ∧
      (s.setTimer x).agreement = s.agreement ∧
      (s.setTimer x).regulation = s.regulation ∧
      (s.setTimer x).survey = s.survey ∧
      (s.setTimer x).capture = s.capture ∧
      (s.setTimer x).supervisor = s.supervisor ∧
      (s.setTimer x).service = s.service ∧
      (s.setTimer x).pins = s.pins ∧
      (s.setTimer x).edge = s.edge ∧
      (s.setTimer x).freeCount = s.freeCount ∧
      (s.setTimer x).pending = s.pending := by
  simp [State.setTimer]

@[simp] theorem State.setKeying_fields (x : Keying) (s : State) :
    (s.setKeying x).held = s.held ∧
      (s.setKeying x).load = s.load ∧
      (s.setKeying x).lines = s.lines ∧
      (s.setKeying x).bus = s.bus ∧
      (s.setKeying x).wire = s.wire ∧
      (s.setKeying x).config = s.config ∧
      (s.setKeying x).timer = s.timer ∧
      (s.setKeying x).keying = x ∧
      (s.setKeying x).front = s.front ∧
      (s.setKeying x).correlator = s.correlator ∧
      (s.setKeying x).table = s.table ∧
      (s.setKeying x).frames = s.frames ∧
      (s.setKeying x).agreement = s.agreement ∧
      (s.setKeying x).regulation = s.regulation ∧
      (s.setKeying x).survey = s.survey ∧
      (s.setKeying x).capture = s.capture ∧
      (s.setKeying x).supervisor = s.supervisor ∧
      (s.setKeying x).service = s.service ∧
      (s.setKeying x).pins = s.pins ∧
      (s.setKeying x).edge = s.edge ∧
      (s.setKeying x).freeCount = s.freeCount ∧
      (s.setKeying x).pending = s.pending := by
  simp [State.setKeying]

@[simp] theorem State.setFront_fields (x : FrontEnd) (s : State) :
    (s.setFront x).held = s.held ∧
      (s.setFront x).load = s.load ∧
      (s.setFront x).lines = s.lines ∧
      (s.setFront x).bus = s.bus ∧
      (s.setFront x).wire = s.wire ∧
      (s.setFront x).config = s.config ∧
      (s.setFront x).timer = s.timer ∧
      (s.setFront x).keying = s.keying ∧
      (s.setFront x).front = x ∧
      (s.setFront x).correlator = s.correlator ∧
      (s.setFront x).table = s.table ∧
      (s.setFront x).frames = s.frames ∧
      (s.setFront x).agreement = s.agreement ∧
      (s.setFront x).regulation = s.regulation ∧
      (s.setFront x).survey = s.survey ∧
      (s.setFront x).capture = s.capture ∧
      (s.setFront x).supervisor = s.supervisor ∧
      (s.setFront x).service = s.service ∧
      (s.setFront x).pins = s.pins ∧
      (s.setFront x).edge = s.edge ∧
      (s.setFront x).freeCount = s.freeCount ∧
      (s.setFront x).pending = s.pending := by
  simp [State.setFront]

@[simp] theorem State.setCorrelator_fields (x : Correlator) (s : State) :
    (s.setCorrelator x).held = s.held ∧
      (s.setCorrelator x).load = s.load ∧
      (s.setCorrelator x).lines = s.lines ∧
      (s.setCorrelator x).bus = s.bus ∧
      (s.setCorrelator x).wire = s.wire ∧
      (s.setCorrelator x).config = s.config ∧
      (s.setCorrelator x).timer = s.timer ∧
      (s.setCorrelator x).keying = s.keying ∧
      (s.setCorrelator x).front = s.front ∧
      (s.setCorrelator x).correlator = x ∧
      (s.setCorrelator x).table = s.table ∧
      (s.setCorrelator x).frames = s.frames ∧
      (s.setCorrelator x).agreement = s.agreement ∧
      (s.setCorrelator x).regulation = s.regulation ∧
      (s.setCorrelator x).survey = s.survey ∧
      (s.setCorrelator x).capture = s.capture ∧
      (s.setCorrelator x).supervisor = s.supervisor ∧
      (s.setCorrelator x).service = s.service ∧
      (s.setCorrelator x).pins = s.pins ∧
      (s.setCorrelator x).edge = s.edge ∧
      (s.setCorrelator x).freeCount = s.freeCount ∧
      (s.setCorrelator x).pending = s.pending := by
  simp [State.setCorrelator]

@[simp] theorem State.setTable_fields (x : Table) (s : State) :
    (s.setTable x).held = s.held ∧
      (s.setTable x).load = s.load ∧
      (s.setTable x).lines = s.lines ∧
      (s.setTable x).bus = s.bus ∧
      (s.setTable x).wire = s.wire ∧
      (s.setTable x).config = s.config ∧
      (s.setTable x).timer = s.timer ∧
      (s.setTable x).keying = s.keying ∧
      (s.setTable x).front = s.front ∧
      (s.setTable x).correlator = s.correlator ∧
      (s.setTable x).table = x ∧
      (s.setTable x).frames = s.frames ∧
      (s.setTable x).agreement = s.agreement ∧
      (s.setTable x).regulation = s.regulation ∧
      (s.setTable x).survey = s.survey ∧
      (s.setTable x).capture = s.capture ∧
      (s.setTable x).supervisor = s.supervisor ∧
      (s.setTable x).service = s.service ∧
      (s.setTable x).pins = s.pins ∧
      (s.setTable x).edge = s.edge ∧
      (s.setTable x).freeCount = s.freeCount ∧
      (s.setTable x).pending = s.pending := by
  simp [State.setTable]

@[simp] theorem State.setFrames_fields (x : FrameUnit) (s : State) :
    (s.setFrames x).held = s.held ∧
      (s.setFrames x).load = s.load ∧
      (s.setFrames x).lines = s.lines ∧
      (s.setFrames x).bus = s.bus ∧
      (s.setFrames x).wire = s.wire ∧
      (s.setFrames x).config = s.config ∧
      (s.setFrames x).timer = s.timer ∧
      (s.setFrames x).keying = s.keying ∧
      (s.setFrames x).front = s.front ∧
      (s.setFrames x).correlator = s.correlator ∧
      (s.setFrames x).table = s.table ∧
      (s.setFrames x).frames = x ∧
      (s.setFrames x).agreement = s.agreement ∧
      (s.setFrames x).regulation = s.regulation ∧
      (s.setFrames x).survey = s.survey ∧
      (s.setFrames x).capture = s.capture ∧
      (s.setFrames x).supervisor = s.supervisor ∧
      (s.setFrames x).service = s.service ∧
      (s.setFrames x).pins = s.pins ∧
      (s.setFrames x).edge = s.edge ∧
      (s.setFrames x).freeCount = s.freeCount ∧
      (s.setFrames x).pending = s.pending := by
  simp [State.setFrames]

@[simp] theorem State.setAgreement_fields (x : Agreement) (s : State) :
    (s.setAgreement x).held = s.held ∧
      (s.setAgreement x).load = s.load ∧
      (s.setAgreement x).lines = s.lines ∧
      (s.setAgreement x).bus = s.bus ∧
      (s.setAgreement x).wire = s.wire ∧
      (s.setAgreement x).config = s.config ∧
      (s.setAgreement x).timer = s.timer ∧
      (s.setAgreement x).keying = s.keying ∧
      (s.setAgreement x).front = s.front ∧
      (s.setAgreement x).correlator = s.correlator ∧
      (s.setAgreement x).table = s.table ∧
      (s.setAgreement x).frames = s.frames ∧
      (s.setAgreement x).agreement = x ∧
      (s.setAgreement x).regulation = s.regulation ∧
      (s.setAgreement x).survey = s.survey ∧
      (s.setAgreement x).capture = s.capture ∧
      (s.setAgreement x).supervisor = s.supervisor ∧
      (s.setAgreement x).service = s.service ∧
      (s.setAgreement x).pins = s.pins ∧
      (s.setAgreement x).edge = s.edge ∧
      (s.setAgreement x).freeCount = s.freeCount ∧
      (s.setAgreement x).pending = s.pending := by
  simp [State.setAgreement]

@[simp] theorem State.setRegulation_fields (x : Regulation) (s : State) :
    (s.setRegulation x).held = s.held ∧
      (s.setRegulation x).load = s.load ∧
      (s.setRegulation x).lines = s.lines ∧
      (s.setRegulation x).bus = s.bus ∧
      (s.setRegulation x).wire = s.wire ∧
      (s.setRegulation x).config = s.config ∧
      (s.setRegulation x).timer = s.timer ∧
      (s.setRegulation x).keying = s.keying ∧
      (s.setRegulation x).front = s.front ∧
      (s.setRegulation x).correlator = s.correlator ∧
      (s.setRegulation x).table = s.table ∧
      (s.setRegulation x).frames = s.frames ∧
      (s.setRegulation x).agreement = s.agreement ∧
      (s.setRegulation x).regulation = x ∧
      (s.setRegulation x).survey = s.survey ∧
      (s.setRegulation x).capture = s.capture ∧
      (s.setRegulation x).supervisor = s.supervisor ∧
      (s.setRegulation x).service = s.service ∧
      (s.setRegulation x).pins = s.pins ∧
      (s.setRegulation x).edge = s.edge ∧
      (s.setRegulation x).freeCount = s.freeCount ∧
      (s.setRegulation x).pending = s.pending := by
  simp [State.setRegulation]

@[simp] theorem State.setSurvey_fields (x : Survey) (s : State) :
    (s.setSurvey x).held = s.held ∧
      (s.setSurvey x).load = s.load ∧
      (s.setSurvey x).lines = s.lines ∧
      (s.setSurvey x).bus = s.bus ∧
      (s.setSurvey x).wire = s.wire ∧
      (s.setSurvey x).config = s.config ∧
      (s.setSurvey x).timer = s.timer ∧
      (s.setSurvey x).keying = s.keying ∧
      (s.setSurvey x).front = s.front ∧
      (s.setSurvey x).correlator = s.correlator ∧
      (s.setSurvey x).table = s.table ∧
      (s.setSurvey x).frames = s.frames ∧
      (s.setSurvey x).agreement = s.agreement ∧
      (s.setSurvey x).regulation = s.regulation ∧
      (s.setSurvey x).survey = x ∧
      (s.setSurvey x).capture = s.capture ∧
      (s.setSurvey x).supervisor = s.supervisor ∧
      (s.setSurvey x).service = s.service ∧
      (s.setSurvey x).pins = s.pins ∧
      (s.setSurvey x).edge = s.edge ∧
      (s.setSurvey x).freeCount = s.freeCount ∧
      (s.setSurvey x).pending = s.pending := by
  simp [State.setSurvey]

@[simp] theorem State.setCapture_fields (x : CaptureStore) (s : State) :
    (s.setCapture x).held = s.held ∧
      (s.setCapture x).load = s.load ∧
      (s.setCapture x).lines = s.lines ∧
      (s.setCapture x).bus = s.bus ∧
      (s.setCapture x).wire = s.wire ∧
      (s.setCapture x).config = s.config ∧
      (s.setCapture x).timer = s.timer ∧
      (s.setCapture x).keying = s.keying ∧
      (s.setCapture x).front = s.front ∧
      (s.setCapture x).correlator = s.correlator ∧
      (s.setCapture x).table = s.table ∧
      (s.setCapture x).frames = s.frames ∧
      (s.setCapture x).agreement = s.agreement ∧
      (s.setCapture x).regulation = s.regulation ∧
      (s.setCapture x).survey = s.survey ∧
      (s.setCapture x).capture = x ∧
      (s.setCapture x).supervisor = s.supervisor ∧
      (s.setCapture x).service = s.service ∧
      (s.setCapture x).pins = s.pins ∧
      (s.setCapture x).edge = s.edge ∧
      (s.setCapture x).freeCount = s.freeCount ∧
      (s.setCapture x).pending = s.pending := by
  simp [State.setCapture]

@[simp] theorem State.setSupervisor_fields (x : Supervisor) (s : State) :
    (s.setSupervisor x).held = s.held ∧
      (s.setSupervisor x).load = s.load ∧
      (s.setSupervisor x).lines = s.lines ∧
      (s.setSupervisor x).bus = s.bus ∧
      (s.setSupervisor x).wire = s.wire ∧
      (s.setSupervisor x).config = s.config ∧
      (s.setSupervisor x).timer = s.timer ∧
      (s.setSupervisor x).keying = s.keying ∧
      (s.setSupervisor x).front = s.front ∧
      (s.setSupervisor x).correlator = s.correlator ∧
      (s.setSupervisor x).table = s.table ∧
      (s.setSupervisor x).frames = s.frames ∧
      (s.setSupervisor x).agreement = s.agreement ∧
      (s.setSupervisor x).regulation = s.regulation ∧
      (s.setSupervisor x).survey = s.survey ∧
      (s.setSupervisor x).capture = s.capture ∧
      (s.setSupervisor x).supervisor = x ∧
      (s.setSupervisor x).service = s.service ∧
      (s.setSupervisor x).pins = s.pins ∧
      (s.setSupervisor x).edge = s.edge ∧
      (s.setSupervisor x).freeCount = s.freeCount ∧
      (s.setSupervisor x).pending = s.pending := by
  simp [State.setSupervisor]

@[simp] theorem State.setService_fields (x : Service) (s : State) :
    (s.setService x).held = s.held ∧
      (s.setService x).load = s.load ∧
      (s.setService x).lines = s.lines ∧
      (s.setService x).bus = s.bus ∧
      (s.setService x).wire = s.wire ∧
      (s.setService x).config = s.config ∧
      (s.setService x).timer = s.timer ∧
      (s.setService x).keying = s.keying ∧
      (s.setService x).front = s.front ∧
      (s.setService x).correlator = s.correlator ∧
      (s.setService x).table = s.table ∧
      (s.setService x).frames = s.frames ∧
      (s.setService x).agreement = s.agreement ∧
      (s.setService x).regulation = s.regulation ∧
      (s.setService x).survey = s.survey ∧
      (s.setService x).capture = s.capture ∧
      (s.setService x).supervisor = s.supervisor ∧
      (s.setService x).service = x ∧
      (s.setService x).pins = s.pins ∧
      (s.setService x).edge = s.edge ∧
      (s.setService x).freeCount = s.freeCount ∧
      (s.setService x).pending = s.pending := by
  simp [State.setService]

@[simp] theorem State.setPins_fields (x : Pins) (s : State) :
    (s.setPins x).held = s.held ∧
      (s.setPins x).load = s.load ∧
      (s.setPins x).lines = s.lines ∧
      (s.setPins x).bus = s.bus ∧
      (s.setPins x).wire = s.wire ∧
      (s.setPins x).config = s.config ∧
      (s.setPins x).timer = s.timer ∧
      (s.setPins x).keying = s.keying ∧
      (s.setPins x).front = s.front ∧
      (s.setPins x).correlator = s.correlator ∧
      (s.setPins x).table = s.table ∧
      (s.setPins x).frames = s.frames ∧
      (s.setPins x).agreement = s.agreement ∧
      (s.setPins x).regulation = s.regulation ∧
      (s.setPins x).survey = s.survey ∧
      (s.setPins x).capture = s.capture ∧
      (s.setPins x).supervisor = s.supervisor ∧
      (s.setPins x).service = s.service ∧
      (s.setPins x).pins = x ∧
      (s.setPins x).edge = s.edge ∧
      (s.setPins x).freeCount = s.freeCount ∧
      (s.setPins x).pending = s.pending := by
  simp [State.setPins]

@[simp] theorem State.setEdge_fields (x : Option CycleEdge) (s : State) :
    (s.setEdge x).held = s.held ∧
      (s.setEdge x).load = s.load ∧
      (s.setEdge x).lines = s.lines ∧
      (s.setEdge x).bus = s.bus ∧
      (s.setEdge x).wire = s.wire ∧
      (s.setEdge x).config = s.config ∧
      (s.setEdge x).timer = s.timer ∧
      (s.setEdge x).keying = s.keying ∧
      (s.setEdge x).front = s.front ∧
      (s.setEdge x).correlator = s.correlator ∧
      (s.setEdge x).table = s.table ∧
      (s.setEdge x).frames = s.frames ∧
      (s.setEdge x).agreement = s.agreement ∧
      (s.setEdge x).regulation = s.regulation ∧
      (s.setEdge x).survey = s.survey ∧
      (s.setEdge x).capture = s.capture ∧
      (s.setEdge x).supervisor = s.supervisor ∧
      (s.setEdge x).service = s.service ∧
      (s.setEdge x).pins = s.pins ∧
      (s.setEdge x).edge = x ∧
      (s.setEdge x).freeCount = s.freeCount ∧
      (s.setEdge x).pending = s.pending := by
  simp [State.setEdge]

@[simp] theorem State.setWire_fields (x : Text) (s : State) :
    (s.setWire x).held = s.held ∧
      (s.setWire x).load = s.load ∧
      (s.setWire x).lines = s.lines ∧
      (s.setWire x).bus = s.bus ∧
      (s.setWire x).wire = x ∧
      (s.setWire x).config = s.config ∧
      (s.setWire x).timer = s.timer ∧
      (s.setWire x).keying = s.keying ∧
      (s.setWire x).front = s.front ∧
      (s.setWire x).correlator = s.correlator ∧
      (s.setWire x).table = s.table ∧
      (s.setWire x).frames = s.frames ∧
      (s.setWire x).agreement = s.agreement ∧
      (s.setWire x).regulation = s.regulation ∧
      (s.setWire x).survey = s.survey ∧
      (s.setWire x).capture = s.capture ∧
      (s.setWire x).supervisor = s.supervisor ∧
      (s.setWire x).service = s.service ∧
      (s.setWire x).pins = s.pins ∧
      (s.setWire x).edge = s.edge ∧
      (s.setWire x).freeCount = s.freeCount ∧
      (s.setWire x).pending = s.pending := by
  simp [State.setWire]

@[simp] theorem State.latch_fields (f : Alarms → Alarms) (s : State) :
    (s.latch f).held = s.held ∧
      (s.latch f).load = s.load ∧
      (s.latch f).lines = s.lines ∧
      (s.latch f).bus = s.bus ∧
      (s.latch f).wire = s.wire ∧
      (s.latch f).config = s.config ∧
      (s.latch f).timer = s.timer ∧
      (s.latch f).keying = s.keying ∧
      (s.latch f).front = s.front ∧
      (s.latch f).correlator = s.correlator ∧
      (s.latch f).table = s.table ∧
      (s.latch f).frames = s.frames ∧
      (s.latch f).agreement = s.agreement ∧
      (s.latch f).regulation = s.regulation ∧
      (s.latch f).survey = s.survey ∧
      (s.latch f).capture = s.capture ∧
      (s.latch f).supervisor = { s.supervisor with alarms := f s.supervisor.alarms } ∧
      (s.latch f).service = s.service ∧
      (s.latch f).pins = s.pins ∧
      (s.latch f).edge = s.edge ∧
      (s.latch f).freeCount = s.freeCount ∧
      (s.latch f).pending = s.pending := by
  simp [State.latch]

/-- Driving the pins changes nothing else. -/
@[simp] theorem drive_fields (s : State) :
    (drive s).held = s.held ∧
      (drive s).load = s.load ∧
      (drive s).lines = s.lines ∧
      (drive s).bus = s.bus ∧
      (drive s).wire = s.wire ∧
      (drive s).config = s.config ∧
      (drive s).timer = s.timer ∧
      (drive s).keying = s.keying ∧
      (drive s).front = s.front ∧
      (drive s).correlator = s.correlator ∧
      (drive s).table = s.table ∧
      (drive s).frames = s.frames ∧
      (drive s).agreement = s.agreement ∧
      (drive s).regulation = s.regulation ∧
      (drive s).survey = s.survey ∧
      (drive s).capture = s.capture ∧
      (drive s).supervisor = s.supervisor ∧
      (drive s).service = s.service ∧
      (drive s).pins = pinsNow s ∧
      (drive s).edge = s.edge ∧
      (drive s).freeCount = s.freeCount ∧
      (drive s).pending = s.pending := by
  simp [drive]

/-- A full reset leaves every block at its reset value but for the MAINS level (R169). -/
@[simp] theorem fullReset_fields (n : Nat) (s : State) :
    (fullReset n s).held = State.reset.held ∧
      (fullReset n s).load = State.reset.load ∧
      (fullReset n s).lines = State.reset.lines ∧
      (fullReset n s).bus = State.reset.bus ∧
      (fullReset n s).wire = cutOff n s ∧
      (fullReset n s).config = State.reset.config ∧
      (fullReset n s).timer = State.reset.timer ∧
      (fullReset n s).keying = State.reset.keying ∧
      (fullReset n s).front = State.reset.front ∧
      (fullReset n s).correlator = State.reset.correlator ∧
      (fullReset n s).table = State.reset.table ∧
      (fullReset n s).frames = State.reset.frames ∧
      (fullReset n s).agreement = State.reset.agreement ∧
      (fullReset n s).regulation = State.reset.regulation ∧
      (fullReset n s).survey = State.reset.survey ∧
      (fullReset n s).capture = State.reset.capture ∧
      (fullReset n s).supervisor = { State.reset.supervisor with mains := s.supervisor.mains } ∧
      (fullReset n s).service = State.reset.service ∧
      (fullReset n s).pins = State.reset.pins ∧
      (fullReset n s).edge = State.reset.edge ∧
      (fullReset n s).freeCount = s.freeCount ∧
      (fullReset n s).pending = s.pending := by
  simp [fullReset]

end Sys2Proof.Machine
end

