-- ==== Sys2Proof/Laws/Ops.lean ====
section
/-! SUPPORT. What each shared operation can do, said once: the parts of the state it leaves, and what it
makes of the others. -/

namespace Sys2Proof.Machine

/-! ### Pins -/

/-- The pins depend on everything but the pins themselves. -/
@[simp] theorem pinsNow_setPins (x : Pins) (s : State) : pinsNow (s.setPins x) = pinsNow s := rfl

/-- Driving leaves the pins as the state gives them. -/
@[simp] theorem pinsNow_drive (s : State) : pinsNow (drive s) = pinsNow s := rfl

/-- OFFMARK is high exactly while a window is open and no reset holds the device (R7). -/
theorem pinsNow_offmark (s : State) :
    (pinsNow s).offmark = (!s.held && decide (s.timer.window = .opened)) := by
  unfold pinsNow
  cases s.held <;> simp

/-- The demand is 0 without output, in an open window, and while a reset holds the device (R13, R18). -/
theorem pinsNow_demand_zero (s : State)
    (h : s.held = true ∨ s.supervisor.condition.output = false ∨ s.timer.window = .opened) :
    (pinsNow s).demand = 0 := by
  unfold pinsNow demandNow
  split
  · rfl
  · rcases h with h | h | h
    · simp_all
    · simp only
      split
      · simp [h]
      · rfl
    · simp only
      split
      · simp [h]
      · rfl

/-! ### Time -/

/-- Time that runs on changes the timer's phase, the sampling facts, the demand's segments and the
cycle end just taken, and nothing else. -/
@[simp] theorem runTo_fields (t : Nat) (s : State) :
    (runTo t s).held = s.held ∧ (runTo t s).load = s.load ∧ (runTo t s).lines = s.lines ∧
      (runTo t s).bus = s.bus ∧ (runTo t s).wire = s.wire ∧
      (runTo t s).config = s.config ∧ (runTo t s).correlator = s.correlator ∧
      (runTo t s).table = s.table ∧ (runTo t s).frames = s.frames ∧
      (runTo t s).agreement = s.agreement ∧ (runTo t s).regulation = s.regulation ∧
      (runTo t s).survey = s.survey ∧ (runTo t s).capture = s.capture ∧
      (runTo t s).supervisor = s.supervisor ∧ (runTo t s).service = s.service ∧
      (runTo t s).pins = s.pins ∧ (runTo t s).freeCount = s.freeCount ∧
      (runTo t s).pending = s.pending ∧ (runTo t s).timer.length = s.timer.length ∧
      (runTo t s).timer.position = s.timer.position ∧
      (runTo t s).timer.window = s.timer.window := by
  unfold runTo
  split <;> simp

/-- Time runs on to the later of the two phase counts. -/
@[simp] theorem runTo_phase (t : Nat) (s : State) :
    (runTo t s).timer.phase = max s.timer.phase t := by
  unfold runTo
  split <;> simp <;> omega

/-- A time already reached changes nothing. -/
theorem runTo_of_le {t : Nat} {s : State} (h : t ≤ s.timer.phase) : runTo t s = s := by
  simp [runTo, h]

/-- The cycle end just taken is forgotten once time has passed. -/
theorem runTo_edge (t : Nat) (s : State) :
    (runTo t s).edge = if t ≤ s.timer.phase then s.edge else none := by
  unfold runTo
  split <;> rfl

/-! ### Conditions -/

/-- A change of condition touches the supervisor, the keying record, the window, the sampling facts and
the self lane's note of DARK, and nothing else (R153). -/
@[simp] theorem setCondition_fields (x : Condition) (s : State) :
    (setCondition x s).held = s.held ∧ (setCondition x s).load = s.load ∧
      (setCondition x s).lines = s.lines ∧ (setCondition x s).bus = s.bus ∧
      (setCondition x s).wire = s.wire ∧ (setCondition x s).config = s.config ∧
      (setCondition x s).table = s.table ∧ (setCondition x s).frames = s.frames ∧
      (setCondition x s).agreement = s.agreement ∧ (setCondition x s).regulation = s.regulation ∧
      (setCondition x s).survey = s.survey ∧ (setCondition x s).capture = s.capture ∧
      (setCondition x s).service = s.service ∧ (setCondition x s).pins = s.pins ∧
      (setCondition x s).edge = s.edge ∧ (setCondition x s).freeCount = s.freeCount ∧
      (setCondition x s).pending = s.pending := by
  unfold setCondition
  split <;> simp

/-- The condition after a change of condition. -/
@[simp] theorem setCondition_condition (x : Condition) (s : State) :
    (setCondition x s).supervisor.condition = x := by
  unfold setCondition
  split
  · simp_all
  · rfl

/-- The supervisor's other facts stand through a change of condition, but for the solitary count. -/
theorem setCondition_supervisor (x : Condition) (s : State) :
    (setCondition x s).supervisor =
      { s.supervisor with
        condition := x
        solitary :=
          if x ≠ s.supervisor.condition ∧ x = .acquiring then 0 else s.supervisor.solitary } := by
  unfold setCondition
  split <;> rename_i h
  · subst h
    simp
  · simp [h]

/-- The timer but for the window stands through a change of condition. -/
theorem setCondition_timer (x : Condition) (s : State) :
    (setCondition x s).timer.phase = s.timer.phase ∧
      (setCondition x s).timer.length = s.timer.length ∧
      (setCondition x s).timer.position = s.timer.position := by
  unfold setCondition
  split <;> simp

/-- A change to a condition without output leaves no window open (R6). -/
theorem setCondition_window {x : Condition} {s : State} (hx : x.output = false)
    (hs : s.timer.window = .opened → s.supervisor.condition.output = true) :
    (setCondition x s).timer.window ≠ .opened := by
  unfold setCondition
  split
  · rename_i h
    subst h
    intro hw
    simp [hs hw] at hx
  · by_cases hw : s.timer.window = .opened <;> simp [hw, hx]

/-- The derivation does not depend on the condition held, on the solitary count, or on what is no
fact of R152. -/
theorem conditionOf_congr (loaded : Bool) (u v : Supervisor) (hf : u.faultCause = v.faultCause)
    (hb : u.brownout = v.brownout) (hm : u.mains = v.mains) (hw : u.working = v.working)
    (hs : u.surveyRunning = v.surveyRunning) (hh : u.hold = v.hold) (hn : u.warn = v.warn) :
    conditionOf loaded u = conditionOf loaded v := by
  simp [conditionOf, hf, hb, hm, hw, hs, hh, hn]

/-- A derived condition is the one the facts give (R152). -/
theorem derive_agrees (s : State) :
    (derive s).supervisor.condition =
      conditionOf (derive s).config.isSome (derive s).supervisor := by
  unfold derive
  rw [setCondition_condition, setCondition_supervisor]
  simp only [setCondition_fields]
  exact conditionOf_congr _ _ _ rfl rfl rfl rfl rfl rfl rfl

/-! ### The warn test -/

/-- The warn test touches the warn flag and the SUPPLY latch, and nothing else (R163). -/
theorem takeWarn_eq (meanS : Option Nat) (s : State) :
    ∃ warn supply, takeWarn meanS s =
      { s with
        supervisor :=
          { s.supervisor with
            warn := warn, alarms := { s.supervisor.alarms with supply := supply } } } := by
  unfold takeWarn
  split
  · exact ⟨_, _, rfl⟩
  · exact ⟨s.supervisor.warn, s.supervisor.alarms.supply, rfl⟩

/-- Without a mean S there is no warn test. -/
@[simp] theorem takeWarn_none (s : State) : takeWarn none s = s := by
  unfold takeWarn
  split <;> simp_all

/-- The warn flag follows a mean S with its hysteresis, and SUPPLY is latched when it becomes set
(R163). -/
theorem takeWarn_flag {c : Settings} {s : State} (m : Nat) (h : s.config = some c) :
    (takeWarn (some m) s).supervisor.warn = warnAfter c s.supervisor.warn m ∧
      (takeWarn (some m) s).supervisor.alarms.supply =
        (s.supervisor.alarms.supply ||
          (warnAfter c s.supervisor.warn m && !s.supervisor.warn)) := by
  simp [takeWarn, h, warnTest]

/-! ### Replies cut off -/

/-- The reply a reset cuts off leaves no more than its characters sent (R182). -/
theorem cutOff_of_reply {s : State} {r : Reply} (n : Nat) (h : s.service.reply = some r) :
    cutOff n s = (wireText r.lines).take n := by
  simp [cutOff, h]

/-- With no reply in progress nothing is cut off. -/
theorem cutOff_of_none {s : State} (n : Nat) (h : s.service.reply = none) :
    cutOff n s = s.wire := by
  simp [cutOff, h]

/-! ### Parity -/

/-- A read of the entries touches the table, the lanes, the watches and the TABLE alarm, and nothing
else (R71). -/
@[simp] theorem checkParity_fields (read : Nat → Entry → Bool) (s : State) :
    (checkParity read s).held = s.held ∧ (checkParity read s).load = s.load ∧
      (checkParity read s).lines = s.lines ∧ (checkParity read s).bus = s.bus ∧
      (checkParity read s).wire = s.wire ∧ (checkParity read s).config = s.config ∧
      (checkParity read s).timer = s.timer ∧ (checkParity read s).keying = s.keying ∧
      (checkParity read s).front = s.front ∧ (checkParity read s).agreement = s.agreement ∧
      (checkParity read s).regulation = s.regulation ∧ (checkParity read s).survey = s.survey ∧
      (checkParity read s).capture = s.capture ∧ (checkParity read s).service = s.service ∧
      (checkParity read s).pins = s.pins ∧ (checkParity read s).edge = s.edge ∧
      (checkParity read s).freeCount = s.freeCount ∧
      (checkParity read s).pending = s.pending := by
  unfold checkParity
  split <;> simp

/-- A read that finds every entry good changes nothing (R70). -/
theorem checkParity_of_good {read : Nat → Entry → Bool} {s : State}
    (h : failingEntries read s.table.slots = []) : checkParity read s = s := by
  simp [checkParity, h]

/-- The supervisor after a read of the entries: only the TABLE latch can change. -/
theorem checkParity_supervisor (read : Nat → Entry → Bool) (s : State) :
    ∃ b, (checkParity read s).supervisor =
      { s.supervisor with alarms := { s.supervisor.alarms with table := b } } := by
  unfold checkParity
  split
  · exact ⟨s.supervisor.alarms.table, rfl⟩
  · exact ⟨true, rfl⟩

/-- An upset touches the stored entries alone (log 6). -/
theorem upsetEntries_eq (struck : List Nat) (s : State) :
    ∃ slots, upsetEntries struck s = { s with table := { s.table with slots := slots } } :=
  ⟨_, rfl⟩

/-- No upset changes nothing. -/
@[simp] theorem upsetEntries_nil (s : State) : upsetEntries [] s = s := by
  have h : (s.table.slots.zipIdx.map fun x =>
      x.1.map fun e => if ([] : List Nat).contains x.2 then { e with parityGood := false } else e) =
      s.table.slots := by
    conv_rhs => rw [← List.zipIdx_map_fst 0 s.table.slots]
    refine List.map_congr_left fun x _ => ?_
    simp
  unfold upsetEntries State.setTable
  rw [h]

/-! ### Cycle start and replies -/

/-- Binding the lanes touches the correlator alone. -/
@[simp] theorem bindLanes_fields (s : State) :
    (bindLanes s).timer = s.timer ∧ (bindLanes s).keying = s.keying ∧
      (bindLanes s).front = s.front ∧ (bindLanes s).table = s.table ∧
      (bindLanes s).supervisor = s.supervisor ∧ (bindLanes s).config = s.config ∧
      (bindLanes s).frames = s.frames ∧ (bindLanes s).regulation = s.regulation ∧
      (bindLanes s).edge = s.edge ∧ (bindLanes s).held = s.held := by
  simp [bindLanes]

/-- Taking the data bit touches the keying generator alone. -/
@[simp] theorem takeBit_fields (s : State) :
    (takeBit s).timer = s.timer ∧ (takeBit s).correlator = s.correlator ∧
      (takeBit s).front = s.front ∧ (takeBit s).table = s.table ∧
      (takeBit s).supervisor = s.supervisor ∧ (takeBit s).config = s.config ∧
      (takeBit s).frames = s.frames ∧ (takeBit s).regulation = s.regulation ∧
      (takeBit s).edge = s.edge ∧ (takeBit s).held = s.held := by
  simp [takeBit]

/-- A reply begun touches the service line alone. -/
theorem beginReply_eq (lines : List Text) (s : State) :
    beginReply lines s =
      { s with service := { s.service with reply := some { lines := lines, cursor := none } } } :=
  rfl

end Sys2Proof.Machine
end

