-- ==== Sys2Proof/Tests/Slice0.lean ====
section
/-! SUPPORT. The author's own tests. Expected values are the spec's worked examples and tables, named at
each test, or are worked by hand from its rules; then a witness for the hypotheses of each statement. -/

open Sys2Proof Sys2Proof.Machine Sys2Proof.Safety

namespace Sys2Proof.Tests

/-! ### Helpers -/

/-- The configuration of the worked computation of 07: code 5, T -950 mV, F -1100 mV, 200 to 2000,
I_start 300, V_max 50.0 V, step limit 50, alpha 4, dead band 5 mV, M 1, S 4, K 20, W 100 ms, D 20 ms,
stray limit 50 mV, SEQUENTIAL, g_detect 50, refresh 32, VWARN 11.0 V. -/
def image : List Byte :=
  [0xC7, 5, 0xFC, 0x4A, 0xFB, 0xB4, 0x07, 0xD0, 0x00, 0xC8, 0x01, 0x2C, 0x01, 0xF4, 50, 4, 5, 1, 4,
    20, 0, 20, 0, 50, 0, 0, 50, 32, 110, 0x24]

/-- See `image`. -/
def settings : Settings := settingsOf image

/-- A configured station in a condition, its facts as that condition needs them. -/
def station (x : Condition) : State :=
  drive { State.reset with
    held := false
    load := .ended
    lines := .stopped
    config := some settings
    regulation := { State.reset.regulation with setCurrent := some 1240 }
    supervisor :=
      { State.reset.supervisor with
        condition := x
        faultCause := if x = .fault then some .reversed else none
        brownout := x = .brownout
        mains := x ≠ .dark
        working := x = .regulating || x = .holding || x = .survey
        hold := x = .holding
        surveyRunning := x = .survey } }

/-- The state after a command. -/
def after (c : Instr) (s : State) : State :=
  match exec c s with
  | .next t => t
  | _ => s

/-- A station at a phase count. -/
def at_ (phase : Nat) (s : State) : State := drive (s.setTimer { s.timer with phase := phase })

/-- A cycle end just taken at frame position 31, its boundary still to be taken. -/
def edge (kind : Option BoundaryKind) : CycleEdge :=
  { ended := 31, boundary := kind, started := 0, dwellDue := true, offer := none, accepted := [],
    aligned := [], meanS := some 1200, warnDue := none, endedCodes := [] }

/-- An entry for the tests, on a code. -/
def entry (code : Nat) (state : EntryState) (lane : Option Nat) (g age : Nat) : Entry :=
  { newEntry code g with state := state, lane := lane, gValid := state ≠ .candidate, age := age }

/-! ### Well-formedness -/

theorem test_wf_short_image : (Instr.configLoadEnd [0xC7] 0).wellFormed = false := by decide
theorem test_wf_load_unit : (Instr.configLoadEnd image 20).wellFormed = false := by decide
theorem test_wf_mains_unit : (Instr.mainsChange true 20).wellFormed = false := by decide
theorem test_wf_capt_zero : (Instr.capt 0).wellFormed = false := by decide
theorem test_wf_capt_high : (Instr.capt 65).wellFormed = false := by decide
theorem test_wf_survey_zero : (Instr.survey .freeze 0).wellFormed = false := by decide
theorem test_wf_survey_high : (Instr.survey .none 32).wellFormed = false := by decide
theorem test_wf_nack_zero : (Instr.loadNack 0).wellFormed = false := by decide
theorem test_wf_nack_high : (Instr.loadNack 4).wellFormed = false := by decide
theorem test_wf_conflict_high : (Instr.loadBusConflict 36).wellFormed = false := by decide
theorem test_wf_timeout_high : (Instr.loadTimeout 36).wellFormed = false := by decide
theorem test_wf_cycle_slot : (Instr.cycleEnd { started := [8] }).wellFormed = false := by decide
theorem test_wf_boundary_start : (Instr.frameBoundary { started := [8] }).wellFormed = false := by decide
theorem test_wf_boundary_slot : (Instr.frameBoundary { plan := [8] }).wellFormed = false := by decide
theorem test_wf_read_slot : (Instr.tableLineRead [8]).wellFormed = false := by decide
theorem test_wf_accepts :
    (Instr.configLoadEnd image 19).wellFormed = true ∧ (Instr.capt 64).wellFormed = true ∧
      (Instr.survey .freeze 31).wellFormed = true ∧ (Instr.loadNack 3).wellFormed = true ∧
      (Instr.loadTimeout 35).wellFormed = true ∧
      (Instr.cycleEnd { ended := [0], started := [7], warnLast := true }).wellFormed = true ∧
      (Instr.fullReset 3).wellFormed = true := by decide

/-- The table gives no row any bits, so no word spells a command. -/
theorem test_no_word_decodes : decodeTableWord 8 0x41 = none := by decide

/-! ### Rounding, codes, chip order (00; 01 R8, R9 with their tables) -/

theorem test_round_ties : roundDiv 5 2 = 3 ∧ roundDiv (-5) 2 = -3 ∧ roundDiv 11 2 = 6 := by decide

/-- The chips of codes 1, 5 and 63 at indices 0..7 (table of R8). -/
theorem test_code_tables :
    (List.range 8).map (chip 1) = [1, -1, 1, -1, 1, -1, 1, -1] ∧
      (List.range 8).map (chip 5) = [1, -1, 1, -1, -1, 1, -1, 1] ∧
      (List.range 8).map (chip 63) = [1, -1, -1, 1, -1, 1, 1, -1] := by decide

/-- Code 5 SCRAMBLED in the cycle with n = 2: positions 0..7 carry indices 27 26 25 24 31 30 29 28
(worked example of 01). -/
theorem test_scrambled_code5 :
    (List.range 8).map (chipIndex .scrambled 2) = [27, 26, 25, 24, 31, 30, 29, 28] ∧
      ((List.range 8).map fun p => chip 5 (chipIndex .scrambled 2 p)) =
        [-1, 1, -1, 1, 1, -1, 1, -1] := by decide

/-- SCRAMBLED visits every index once in every cycle of an epoch (R9). -/
theorem test_scrambled_visits_all :
    ∀ n < 8, ((List.range 64).map (chipIndex .scrambled n)).Nodup := by decide +kernel

/-! ### Demand and samples (01, worked sequence; 02, worked examples) -/

/-- Code 5, set current 1240, K = 20, bit 1, position 0: 12200, 12600, then 12400 in the tail. -/
theorem test_demand_sequence :
    let s := (station .regulating).setKeying { State.reset.keying with dataBit := true }
    (at_ 0 s).pins.demand = 12200 ∧ (at_ 300 s).pins.demand = 12600 ∧
      (at_ 1500 s).pins.demand = 12200 ∧ (at_ 19200 s).pins.demand = 12400 ∧
      (after .offWindowDecision (at_ 19400 s)).pins.demand = 0 ∧
      (after .offWindowDecision (at_ 19400 s)).pins.offmark = true := by decide

/-- The chip values of position 2: early -9502, prompt -9508, late -9510. -/
theorem test_chip_values :
    let xs : List Int :=
      [-9480, -9492, -9500, -9504, -9506, -9507, -9508, -9508, -9509, -9509, -9510, -9510, -9510,
        -9511, -9511]
    let f (k : Nat) := chipValues (30 + k) (xs.getD k 0)
      { State.reset.front with chipSamples := xs.take k }
    (f 8).early = [-9502] ∧ (f 11).prompt = [-9508] ∧ (f 14).late = [-9510] := by decide

/-- The eight samples of ms 990..997 give -8801, tagged with the condition at the end. -/
theorem test_instant_off :
    let f := instantOffValues settings .opened .regulating
    let xs : List Int := [-8803, -8803, -8802, -8802, -8801, -8800, -8798, -8795]
    (xs.zipIdx.foldl (fun a x => f (990 + x.2) x.1 a) State.reset.front).instantOff =
      some { value := -8801, tag := .regulating } := by decide

/-- A P sample at the end of its range marks the cycle overrange, one inside does not (R21). -/
theorem test_sample_overrange :
    let s := (station .regulating).setFront { State.reset.front with whole := true }
    (after (.sample 10000 0 0 1200) s).front.overrange = true ∧
      (after (.sample 9999 0 0 1200) s).front.overrange = false := by decide

/-- The shortest cycle completes ms 1277 and no later one (table of R20). -/
theorem test_sample_short_cycle :
    let s (m : Nat) := (station .regulating).setTimer
      { State.reset.timer with length := 25560, phase := 20 * m }
    (after (.sample 0 0 0 1200) (s 1277)).front.supplyCount = 1 ∧
      (after (.sample 0 0 0 1200) (s 1278)).front.supplyCount = 0 := by decide

/-- DARK in the tail leaves the keyed-throughout mark, DARK in the keying span clears it (R14, R31). -/
theorem test_keyed_mark :
    let s (phase : Nat) :=
      at_ phase ((station .regulating).setKeying { State.reset.keying with keyed := true })
    (after (.mainsChange false 0) (s 19199)).keying.keyed = false ∧
      (after (.mainsChange false 0) (s 19200)).keying.keyed = true := by decide

/-! ### Figures (03, tables of R40, R42, R47 to R49) -/

theorem test_influence_table :
    influence 20 16000 = 1250 ∧ influence 20 (-1075) = 84 ∧ influence 20 0 = 0 ∧
      influence 10 419420 = 65534 ∧ influence 10 419421 = 65535 ∧
      influence 10 1600000 = 65535 := by decide

theorem test_timing_error_table :
    timingError 1000 1200 = some 5 ∧ timingError 2300 (-2500) = some 3 ∧
      timingError 1500 900 = some (-15) ∧ timingError 0 800 = some 60 ∧
      timingError 0 0 = none := by decide

/-- The self lane over boundaries 1 to 3 and 4 of its worked sequence. -/
theorem test_self_lane_sequence :
    let k0 := State.reset.correlator
    let k1 := selfAtBoundary settings { k0 with selfSum := 35960, selfCount := 29 }
    let k2 := selfAtBoundary settings { k1 with selfSum := 37860, selfCount := 30 }
    let k3 := selfAtBoundary settings { k2 with selfSum := 36580, selfCount := 31 }
    let k4 := selfAtBoundary settings { k3 with selfSum := -9600, selfCount := 32 }
    let k5 := { selfAtBoundary settings k4 with selfSum := -8960, selfCount := 32 }
    k1.gSelf = 1240 ∧ k2.gSelf = 1246 ∧ k3.gSelf = 1229 ∧ k4.reversed = 1 ∧ k5.reversed = 1 ∧
      reversedCause settings k5 = true := by decide

/-- The residual test at its limit: a spread of 500 does not exceed 500, one of 501 does (R38). -/
theorem test_residual_limit :
    residualTest settings 0 0 [-9000, -9500] = false ∧
      residualTest settings 0 0 [-9000, -9501] = true := by decide

/-- The search order of the worked example of 03: own code 62, entries on 63, 1 and 4. -/
theorem test_search_order :
    nextDwell 62 [63, 1, 4] 63 61 = 2 ∧ nextDwell 62 [63, 1, 4] 63 2 = 3 ∧
      nextDwell 62 [63, 1, 2, 4] 63 3 = 5 ∧ nextDwell 62 [63, 1, 2, 4] 63 5 = 6 := by decide

/-! ### Table and arbiter (04, worked example and sequence) -/

/-- The full table of the worked example. -/
def fullTable : List (Option Entry) :=
  [some (entry 9 .tracked (some 1) 603 0), some (entry 21 .tracked (some 2) 179 0),
    some (entry 33 .tracked (some 3) 94 0), some (entry 40 .tracked (some 4) 69 0),
    some (entry 12 .parked none 90 3), some (entry 44 .parked none 90 3),
    some (entry 7 .parked none 210 3), some (entry 18 .candidate none 61 0)]

theorem test_offer_full_table :
    admitOffer 5 19 140 fullTable = fullTable.set 5 (some (newEntry 19 140)) ∧
      admitOffer 5 25 80 (admitOffer 5 19 140 fullTable) = admitOffer 5 19 140 fullTable := by decide

/-- The contest for the lanes before boundary 1, with the figures of the frame that ends there. -/
def contest : List (Option Entry) :=
  [some { entry 9 .tracked (some 1) 600 0 with frameSum := 610, frameCount := 1 },
    some { entry 21 .tracked (some 2) 180 0 with frameSum := 176, frameCount := 1 },
    some { entry 33 .tracked (some 3) 95 0 with frameSum := 92, frameCount := 1 },
    some { entry 40 .tracked (some 4) 70 0 with frameSum := 66, frameCount := 1 },
    some (entry 14 .candidate none 130 0), none, none, none]

/-- Boundary 1: code 40 is evicted with age 0 and g 69, and lane 4 opens to code 14, aged to 1. -/
theorem test_contest_eviction :
    let slots := (tableWork settings none contest).1
    (entriesOf slots).map (fun e => (e.code, e.lane, e.g, e.age)) =
      [(9, some 1, 603, 0), (21, some 2, 179, 0), (33, some 3, 94, 0), (40, none, 69, 0),
        (14, some 4, 130, 1)] := by decide

/-- Boundary 4: code 33 is lost on its second faint figure and lane 3 opens to code 40. -/
theorem test_contest_loss :
    let slots := (tableWork settings none
      [some { entry 33 .tracked (some 3) 75 0 with frameSum := 18, frameCount := 1, low := 1 },
        some (entry 40 .parked none 69 2), some (entry 9 .tracked (some 1) 603 0),
        some (entry 21 .tracked (some 2) 179 0), some (entry 14 .tracked (some 4) 126 0)]).1
    slots.getD 0 none = none ∧
      (slots.getD 1 none).map (fun e => (e.lane, e.g, e.age)) = some (some 3, 69, 3) := by decide

/-- An entry struck before regulation's read is gone after the boundary, its lane free until the next
one, counted and alarmed; a struck entry the cycle-start read finds is gone after CYCLE_END (R70, R71). -/
theorem test_upset_entries :
    let r : FrameRecord := ⟨.regulating, 5, 0, .none, .over, 0, false, false, 0⟩
    let e := { entry 9 .tracked (some 1) 300 0 with record := some r }
    let s := ((station .regulating).setTable
      { slots := (List.replicate 8 none).set 2 (some e), errors := 0 }).setEdge
        (some { edge (some .ordinary) with dwellDue := false, accepted := [9], aligned := [9] })
    let t := after (.frameBoundary { apply := [2] }) s
    let u := after (.cycleEnd { started := [2] }) (s.setEdge none)
    (after (.frameBoundary {}) s).regulation.settle = true ∧ t.regulation.settle = false ∧
      t.table.slots.getD 2 none = none ∧ t.table.errors = 1 ∧ t.supervisor.alarms.table = true ∧
      t.correlator.lanes = [none, none, none, none] ∧
      u.table.slots.getD 2 none = none ∧ u.table.errors = 1 := by decide +kernel

/-! ### Phase agreement (05, worked examples and R86) -/

theorem test_adjustments :
    weightedError [(1075, 14), (500, 4)] = some 11 ∧ adjustmentOf (some 11) = 6 ∧
      weightedError [(16000, 2), (15800, -3), (2400, 20)] = some 1 ∧
      adjustmentOf (some 1) = 1 := by decide

/-- The offset rule and the sender test of R86. -/
theorem test_realignment_rule :
    realigns .regulating 5 .regulating 9 15 = true ∧
      realigns .regulating 5 .regulating 9 16 = true ∧
      realigns .regulating 9 .regulating 5 16 = false ∧
      realigns .regulating 5 .regulating 9 17 = false ∧
      realigns .regulating 5 .holding 9 3 = false ∧
      realigns .acquiring 9 .holding 5 30 = true ∧
      realigns .acquiring 9 .acquiring 5 17 = false := by decide

/-- Lock at the eighth small error, loss at the sixteenth large one (R77, R78). -/
theorem test_lock_counts :
    (lockStep (some 10) { State.reset.agreement with acquisition := 7 }).1.lock = .locked ∧
      (lockStep (some 11) { State.reset.agreement with acquisition := 7 }).1.acquisition = 0 ∧
      (lockStep (some (-31)) ⟨.locked, 0, 15, 0⟩) = (⟨.unlocked, 0, 0, 0⟩, true) ∧
      (lockStep (some 30) ⟨.locked, 0, 15, 0⟩).1.loss = 0 := by decide

/-! ### Frames (06, worked examples) -/

/-- The worked frame: REGULATING, step +8, generation 5, kind NONE, flags 0; check 1011. -/
def workedFrame : List Bool :=
  [1, 1, 0, 0, 1, 0, 0, 0, 0, 0, 1, 0, 0, 0, 0, 1, 0, 1, 0, 0, 0, 0, 0, 0, 0, 0, 0, 0, 1, 0, 1, 1].map
    fun (x : Nat) => x = 1

/-- The survey record of the worked frame. -/
def endedSurvey : Survey :=
  { valid := true, generation := 5, kind := .none, phase := .over, count := 0, origination := none }

theorem test_worked_frame :
    buildFrame .regulating 8 endedSurvey false false = workedFrame ∧
      checkOf (workedFrame.take 28) = 11 ∧ checkOf (workedFrame.take 8) = 2 := by decide +kernel

/-- Place 10 erased: the second trial passes, with the worked fields; places 10 and 20: none. -/
theorem test_erased_place :
    let h := (workedFrame.map some).set 10 none
    frameTest h =
        some { condition := .regulating, step := 8, generation := 5, kind := .none, phase := .over,
               count := 0, limit := false, health := false, age := 0 } ∧
      frameTest (h.set 20 none) = none := by decide +kernel

/-- A step of -3 is sent as 1 1111 1101, and a step field of -256 is not valid (R94, R99). -/
theorem test_step_field :
    stepPlaces (-3) = [true, true, true, true, true, true, true, false, true] ∧
      stepAt (stepPlaces (-255)) = -255 ∧
      readFrame (buildFrame .regulating (-256) endedSurvey false false) = none := by decide +kernel

theorem test_frame_classes :
    frameClass 31 = .aligned ∧ frameClass 0 = .ignored ∧ frameClass 27 = .misaligned 4 ∧
      frameClass 1 = .misaligned 30 := by decide

/-- A due watch without a valid frame counts a discard and moves on by 32 (R102). -/
theorem test_watch :
    watchAfter 1064 false (some 1064) 0 = (some 1096, 1) ∧
      watchAfter 1096 true (some 1096) 1 = (some 1128, 1) ∧
      watchAfter 1124 false (some 1128) 1 = (some 1128, 1) := by decide

/-! ### Regulation (07, worked computations) -/

theorem test_worked_plan :
    (planStep settings
        { mean := some (-9020), gSelf := 1250, gSelfValid := true, setCurrent := 1240,
          applied := 200, neighbours := [(84, 50), (37, -30)], voltageLimit := false,
          spacing := some 1 }).step = 8 ∧
      anticipation
        { mean := none, gSelf := 1250, gSelfValid := true, setCurrent := 1240, applied := 200,
          neighbours := [(84, 50), (37, -30)], voltageLimit := false, spacing := none } = 281 := by
  decide

/-- The computation at the limits: floor step -200, cut to -100 by I_min 240. -/
theorem test_worked_limits :
    planStep { settings with gain := 1, stepLimit := 30, iMin := 240 }
        { mean := some (-11250), gSelf := 1250, gSelfValid := true, setCurrent := 250,
          applied := 0, neighbours := [], voltageLimit := false, spacing := none } =
      { step := -10, floor := true, ilimit := false, vlimit := false, noself := false } := by decide

/-- 45 mA becomes 50, -45 becomes -50, 44 becomes 40 (R124). -/
theorem test_quantise :
    limitStep settings 45 = 50 ∧ limitStep settings (-45) = -50 ∧ limitStep settings 44 = 40 ∧
      limitStep settings 9999 = 500 := by decide

/-! ### Surveys (08, worked examples) -/

/-- A frame record of a generation, kind, phase and count. -/
def heard (generation : Nat) (kind : SurveyKind) (phase : SurveyPhase) (count : Nat) : FrameRecord :=
  { condition := .regulating, step := 0, generation := generation, kind := kind, phase := phase,
    count := count, limit := false, health := false, age := 0 }

/-- The classing of frames against generation 14. -/
theorem test_generation_classes :
    let v := { endedSurvey with generation := 14 }
    v.isNewer (heard 15 .interrupt .pending 3) = true ∧
      v.isNewer (heard 5 .freeze .pending 3) = true ∧
      v.isNewer (heard 6 .freeze .pending 3) = false ∧
      v.isNewer (heard 14 .depolarize .pending 3) = false ∧
      v.isNewer (heard 0 .interrupt .pending 3) = true ∧
      v.isNewer (heard 0 .none .over 0) = false ∧
      v.isNewer (heard 1 .none .over 0) = true := by decide

/-- Boundary 1 of the flooded survey: B adopts 5 frames to start and stands at 4. -/
theorem test_survey_adopted :
    let v := { endedSurvey with generation := 4 }
    v.boundary [{ sender := 9, record := heard 5 .interrupt .pending 5 }] =
      { v with generation := 5, kind := .interrupt, phase := .pending, count := 4 } := by decide

/-- Boundary 38 of the joiner: 494 remaining falls to 480 and counts down to 479. -/
theorem test_survey_joiner :
    let v := { endedSurvey with kind := .interrupt, phase := .running, count := 494 }
    (v.boundary [{ sender := 9, record := heard 5 .interrupt .running 15 }]).count = 479 := by decide

/-- The depolarisation: force to K saves 1248, restore brings it back (R131). -/
theorem test_depolarize_forces :
    let r := { State.reset.regulation with setCurrent := some 1248 }
    let k := adjustForSurvey settings (some .forceToDepth) r
    k.setCurrent = some 20 ∧ k.resume = some 1248 ∧
      (adjustForSurvey settings (some .restore) k).setCurrent = some 1248 := by decide

/-! ### Conditions and supply (09) -/

/-- Warn: set below 1100, cleared at 1130 (VWARN 110, the worked sequence of 09). -/
theorem test_warn_levels :
    warnAfter settings false 1094 = true ∧ warnAfter settings true 1118 = true ∧
      warnAfter settings true 1134 = false ∧ warnAfter settings false 1100 = false := by decide

/-- A boundary whose cycle's mean S lies below the warn level: the warn test first, nothing is planned in
HOLDING; the boundary first, it plans in REGULATING, its frame shows that, and the test then gives HOLDING
and latches SUPPLY (R161, R163, log 36). -/
theorem test_warn_orders :
    let s0 := at_ 25600 (station .regulating)
    let s := { s0 with
      timer := { s0.timer with position := 31 }
      front := { s0.front with supplySum := 109900, supplyCount := 100 } }
    let early := after (.frameBoundary {}) (after (.cycleEnd {}) s)
    let mid := after (.cycleEnd { warnLast := true }) s
    let late := after (.frameBoundary {}) mid
    let shown (t : State) := (t.frames.ownFrame.getD []).take 5
    early.supervisor.condition = .holding ∧ early.regulation.beganRegulating = false ∧
      shown early = [true, true, false, true, false] ∧
      mid.supervisor.condition = .regulating ∧ mid.supervisor.alarms.supply = false ∧
      late.supervisor.condition = .holding ∧ late.regulation.beganRegulating = true ∧
      shown late = [true, true, false, false, true] ∧ late.supervisor.alarms.supply = true ∧
      late.pins.alm = true := by decide +kernel

/-- A low run that completes with the last sample of a cycle whose mean S lies above the warn recovery
level: the entry leaves the warn flag set, whichever of boundary, warn test and entry came before
(R164, R165, log 36). -/
theorem test_entry_leaves_warn :
    let s0 := at_ 25600 (station .holding)
    let s := { s0 with
      timer := { s0.timer with position := 31 }
      front := { s0.front with supplySum := 120000, supplyCount := 100 }
      supervisor := { s0.supervisor with warn := true, lowRun := 100 } }
    let a := after (.cycleEnd {}) s
    let b := after (.cycleEnd { warnLast := true }) s
    a.supervisor.warn = false ∧ (after .brownoutEntry a).supervisor.warn = true ∧
      (after (.frameBoundary {}) (after .brownoutEntry b)).supervisor.warn = true ∧
      (after (.frameBoundary {}) b).supervisor.warn = false ∧
      (after .brownoutEntry (after (.frameBoundary {}) b)).supervisor.warn = true := by
  decide +kernel

/-- A FAULT entered while the search lane waits keeps the mark, and its dwell ends move no code
(R53 before R54, log 38). -/
theorem test_fault_keeps_waiting :
    let s0 := at_ 25600 (station .fault)
    let s := { s0 with
      timer := { s0.timer with position := 7 }
      correlator := { s0.correlator with waiting := true, dwellCode := 9 } }
    let t := after .dwellEnd (after (.cycleEnd {}) s)
    t.correlator.waiting = true ∧ t.correlator.dwellCode = 9 := by decide +kernel

theorem test_mains_darkens :
    (after (.mainsChange false 7) (station .regulating)).supervisor.condition = .dark ∧
      (after (.mainsChange true 7) (station .dark)).supervisor.condition = .acquiring := by decide

/-- Five times the difference against the mean demand plus 1000 (R16). -/
theorem test_stage_threshold :
    stageBad 9720 12400 = false ∧ stageBad 9719 12400 = true ∧ stageBad 0 0 = false := by decide

/-! ### The image (11) -/

/-- T = 0xFC4A is -9500 in 0.1 mV; the image is accepted, and refused with a wrong mark or sum. -/
theorem test_image :
    settings.target = -9500 ∧ settings.floor = -11000 ∧ settings.windowLength = 100 ∧
      imageAccepted image = true ∧ imageAccepted (image.set 0 0xC6) = false ∧
      imageAccepted (image.set 29 0x25) = false := by decide

/-- An image of right sum whose I_min lies below K is refused (R155, R181). -/
theorem test_image_range :
    imageAccepted ((image.set 9 19).set 29 0xD9) = false ∧
      ((image.set 9 19).set 29 0xD9).foldl (fun a b => a + b.toNat) 0 % 256 = 0 := by decide

/-- The end of the load: ACQUIRING at I_start, first dwell on code 6. -/
theorem test_load_accepted :
    let s := { State.reset with held := false, load := .reading }
    (after (.configLoadEnd image 3) s).supervisor.condition = .acquiring ∧
      (after (.configLoadEnd image 3) s).regulation.setCurrent = some 300 ∧
      (after (.configLoadEnd image 3) s).correlator.dwellCode = 6 ∧
      (after (.loadNack 1) s).pins.flt = true := by decide

/-- What the device did on the I2C line (R154, R156): all 36 actions when the load is whole, and with
the second address byte left unacknowledged a stop condition after it. -/
theorem test_bus_actions :
    let s := { State.reset with held := false, load := .reading }
    (after (.configLoadEnd image 3) s).bus.length = 36 ∧
      (after (.configLoadEnd image 3) s).bus.getD 34 .stop = .data 29 false ∧
      (after (.loadNack 2) s).bus = [.start, .address 0x50 false, .byteAddress 0, .stop] ∧
      (after (.loadNack 2) s).lines = .stopped := by decide

/-! ### The service line (10, 11) -/

/-- The status line of 11. -/
theorem test_status_line :
    let s := station .survey
    statusLine
        { s with
          agreement := { s.agreement with lock := .locked }
          timer := { s.timer with position := 12 }
          correlator := { s.correlator with gSelf := 1250, gSelfValid := true }
          survey := ⟨true, 5, .interrupt, .running, 430, none⟩
          supervisor :=
            { s.supervisor with alarms := { Alarms.none with vlimit := true, capdrop := true } }
          capture := { s.capture with records := List.replicate 500 ⟨0, 0, 0, none, 0, 0, false, false⟩,
                                      drops := 37 }
          front := { s.front with lastMeanS := some 1400 } } =
      "S SURVEY LOCKED 12 1240 +0 - 1250 G5 INTERRUPT RUNNING 430 VLIMIT,CAPDROP 0 0 500 37 1400".toList := by
  decide +kernel

/-- A line typed at the terminal, then its carriage return. -/
def typed (line : String) (s : State) : State :=
  after (.characterReceived 0x0D#8 true)
    (s.setService
      { s.service with buffer := line.toList.map fun ch => BitVec.ofNat 8 ch.toNat })

/-- The reply lines in progress. -/
def replyOf (s : State) : List Text := (s.service.reply.map Reply.lines).getD []

/-- The session at the cabinet: small letters, a count out of range, CLEAR, and a pending SURVEY. -/
theorem test_session :
    replyOf (typed "status" (station .survey)) = ["?ERR".toList] ∧
      replyOf (typed "CAPT 80" (station .survey)) = ["?ERR".toList] ∧
      replyOf (typed "CLEAR" (station .survey)) = ["OK".toList] ∧
      (typed " SURVEY  FREEZE 003 " (station .survey)).survey.origination = some (.freeze, 3) ∧
      replyOf (typed "SURVEY NONE 1" (station .dark)) = ["?STATE".toList] ∧
      (typed "   " (station .survey)).service.reply = none := by decide +kernel

/-- A framing error whose bits read 0x0D does not complete the line, and one on a full buffer does not make
it overlong (R170, log 32). -/
theorem test_framing_error :
    let line (n : Nat) := (station .regulating).setService
      { State.reset.service with buffer := List.replicate n 65#8 }
    let s := line 6
    let f := line 32
    (after (.characterReceived 0x0D#8 false) s).service.reply = none ∧
      (after (.characterReceived 0x0D#8 false) s).service.badCharacter = true ∧
      (after (.characterReceived 65#8 false) f).service.overlong = false := by decide

/-- The transmit line idles high and carries a reply to its end with its carriage return and line feed, which
is then all that was sent (R170, R172, R182). -/
theorem test_transmit_line :
    let s := after .hold (station .regulating)
    (station .regulating).pins.txd = .high ∧
      s.pins.txd = .sending ['O', 'K', Char.ofNat 13, Char.ofNat 10] ∧
      (after .replyEnd s).pins.txd = .high ∧
      (after .replyEnd s).wire = ['O', 'K', Char.ofNat 13, Char.ofNat 10] := by decide

/-- A full reset cuts a reply's line off, which is left without its ending (R182); with no reply in progress
the last one stands as it was sent. No more can have been sent than was read. -/
theorem test_line_cut :
    let s := after .hold (station .regulating)
    (after (.fullReset 1) s).wire = ['O'] ∧ (after (.fullReset 1) s).pins.txd = .high ∧
      (after (.fullReset 1) s).service.reply = none ∧
      (after (.fullReset 0) (after .replyEnd s)).wire = ['O', 'K', Char.ofNat 13, Char.ofNat 10] ∧
      wellTimed (.fullReset 4) s = true ∧ wellTimed (.fullReset 5) s = false := by decide

/-- In FAULT with cause CONFIG a HOLD is taken at the next boundary, before the load's end none (R160). -/
theorem test_hold_after_failed_load :
    let s (stage : LoadStage) := (({ State.reset with held := false, load := stage }).setSupervisor
        { State.reset.supervisor with
          condition := .fault, faultCause := some .config, pendingHold := some .hold }).setEdge
      (some (edge (some .ordinary)))
    (after (.frameBoundary {}) (s .ended)).supervisor.hold = true ∧
      (after (.frameBoundary {}) (s .ended)).supervisor.pendingHold = none ∧
      (after (.frameBoundary {}) (s .reading)).supervisor.pendingHold = some .hold := by decide

theorem test_hold_waits :
    (after .hold (station .regulating)).supervisor.pendingHold = some .hold ∧
      (after .hold (station .regulating)).supervisor.hold = false ∧
      replyOf (after .hold (station .starting)) = ["?STATE".toList] := by decide

/-! ### Witnesses: a state and operands that meet each statement's hypotheses, at boundary values -/

/-- A station at the end of the keying span, the OFF window's decision or the cycle, sampled throughout. -/
def sampled (x : Condition) (phase : Nat) : State :=
  let s := at_ phase (station x)
  { s with
    front :=
      { s.front with
        unbroken := true, whole := true, onPotential := some (-9500), meanCurrent := some 12400,
        meanVoltage := some 200, supplySum := 1536000, supplyCount := 1280 }
    correlator := { s.correlator with xpSelf := some (-12800), residual := some false }
    keying := { s.keying with meanDemand := some 12400, demandMs := 960, keyed := true } }

/-- At the instant of its window's end a BROWNOUT entry may come first, which cuts the window short, or
second (R6, R30, log 33). -/
theorem test_entry_at_window_end :
    let s := sampled .regulating (20 * 1070)
    let s := drive ((s.setTimer { s.timer with window := .opened }).setSupervisor
      { s.supervisor with lowRun := 100 })
    wellTimed .offWindowEnd s = true ∧ wellTimed .brownoutEntry s = true ∧
      wellTimed .brownoutEntry (after .offWindowEnd s) = true ∧
      (after .brownoutEntry (after .offWindowEnd s)).timer.window = .full ∧
      (after .brownoutEntry s).timer.window = .cutShort := by decide +kernel

/-- A command row is ill-timed with part of a line received (R171, log 16). -/
theorem test_row_alone :
    let s := (station .regulating).setService { State.reset.service with buffer := [65#8] }
    wellTimed .hold s = false ∧ wellTimed .hold (station .regulating) = true := by decide

/-- A survey record that runs. -/
def running (kind : SurveyKind) (count : Nat) : Survey :=
  { valid := true, generation := 5, kind := kind, phase := .running, count := count,
    origination := none }

/-- A DARK entered and left at the instant a cycle starts leaves the mark set and counts for R46; later in
the keying span it clears the mark (log 31). -/
theorem test_instant_of_dark :
    let blink (s : State) := after (.mainsChange true 0) (after (.mainsChange false 0) s)
    let start := blink (after (.cycleEnd {}) (sampled .regulating 25600))
    let later := blink (sampled .regulating 100)
    start.keying.keyed = true ∧ start.correlator.darkSeen = true ∧
      later.keying.keyed = false ∧ later.supervisor.condition = .regulating := by decide +kernel

/-- A station at a boundary still to be taken. -/
def boundary (kind : BoundaryKind) (x : Condition) : State :=
  (station x).setEdge (some (edge (some kind)))

/-- A station with its OFF window open at its end. -/
def windowed (records : Nat) : State :=
  let s := sampled .survey (20 * 1070)
  drive { s with
    timer := { s.timer with window := .opened }
    survey := running .interrupt 1
    capture :=
      { records := List.replicate records ⟨0, 0, 0, none, 0, 0, false, false⟩,
        nextSequence := 65535, drops := 65535 } }

theorem witness_StepRunsFrontCommand :
    ({ station .regulating with pending := [.hold, .free] }).pending = Instr.hold :: [.free] := rfl

theorem witness_OffOccasionIsStill :
    occasion .resetEnd (station .regulating) = false ∧ occasion .hold State.reset = false ∧
      wellTimed .hold (station .regulating) = true ∧
      wellTimed (.sample 0 0 0 0) (station .dark) = true := by decide

/-- A held device, and a restart due with records in the store. -/
theorem witness_ResetEndAndRestartBegin :
    State.reset.held = true ∧
      let s := ((station .fault).setService { State.reset.service with pendingRestart := true }).setCapture
        { records := [⟨7, 0, 0, none, 0, 0, false, false⟩], nextSequence := 8, drops := 2 }
      (after .deviceRestart s).capture.nextSequence = 8 ∧
      s.held = false ∧ s.service.reply = none ∧ s.service.pendingRestart = true := by decide

theorem witness_HeldDeviceIsStill :
    State.reset.held = true ∧ State.reset.load = .idle ∧ (∀ sent, Instr.cycleEnd {} ≠ .fullReset sent) ∧
      Instr.cycleEnd {} ≠ .resetEnd ∧
      ∀ present unit, Instr.cycleEnd {} ≠ .mainsChange present unit := by
  refine ⟨rfl, rfl, ?_, ?_, ?_⟩ <;> simp

/-- The load at its three stages, no cause present. -/
def loading (stage : LoadStage) : State := { State.reset with held := false, load := stage }

theorem witness_LoadEventsReadOrFail :
    (after (.loadNack 3) (loading .reading)).bus = imageTransfer.take 5 ++ [.stop] ∧
      (after (.loadTimeout 0) (loading .waiting)).bus = [] ∧
      (after (.loadBusConflict 35) (loading .reading)).bus.length = 35 ∧
      (loading .waiting).load = .waiting ∧ (loading .reading).load = .reading ∧
      (loading .reading).held = false ∧ (loading .reading).supervisor.faultCause = none := by decide

/-- From STARTING, with MAINS present and absent, and at a whole and a broken millisecond. -/
theorem witness_LoadEndAcceptsOrRefuses :
    let s := loading .reading
    let d := s.setSupervisor { s.supervisor with mains := false }
    s.supervisor.condition = .starting ∧ s.front.unbroken = false ∧ s.timer.window ≠ .opened ∧
      s.keying.keyed = false ∧ s.edge = none ∧ s.supervisor.solitary = 0 ∧
      d.supervisor.condition = .starting ∧ d.supervisor.mains = false ∧
      (after (.configLoadEnd image 0) s).timer.phase = 0 ∧
      (after (.configLoadEnd image 7) s).timer.phase = 7 ∧
      (after (.configLoadEnd image 7) d).correlator.darkSeen = true ∧
    s.held = false ∧ s.load = .reading ∧ s.config = none ∧ s.supervisor.faultCause = none ∧
      s.supervisor.working = false ∧ imageAccepted image = true ∧ imageAccepted [] = false := by
  decide

/-- The instant-off interval with D 20 (ms 990 to 997) and the milliseconds beside it, the keying span's
last and the tail's first; ms 0, ms 1279 and ms 1280 of a lengthened cycle, with P sampled and not. -/
theorem witness_SampleEndsMillisecond :
    let w (m n : Nat) : State :=
      let s := sampled .regulating (20 * m)
      { s with timer := { s.timer with window := .opened }, front := { s.front with offCount := n } }
    (∀ y ∈ [w 989 0, w 990 0, w 996 6, w 997 7, w 997 6, w 998 0],
      y.held = false ∧ y.config = some settings ∧ y.front.whole = true ∧ y.front.unbroken = true ∧
        y.ms < 1280 ∧ y.timer.window = .opened ∧ 20 * (y.ms + 1) ≤ y.timer.length) ∧
    (w 989 0).ms < 970 + settings.sampleDelay ∧ (w 990 0).ms = 970 + settings.sampleDelay ∧
    (w 996 6).ms + 1 = 970 + settings.sampleDelay + 7 ∧
    (w 997 7).ms = 970 + settings.sampleDelay + 7 ∧ (w 997 7).front.offCount = 7 ∧
    970 + settings.sampleDelay + 7 < (w 998 0).ms ∧
    (sampled .regulating (20 * 959)).ms < 960 ∧ 960 ≤ (sampled .regulating (20 * 960)).ms ∧
    (sampled .regulating 0).timer.window ≠ .opened ∧
    let s (m : Nat) := (sampled .regulating (20 * m)).setTimer
      { State.reset.timer with length := 25640, phase := 20 * m }
    (∀ m ∈ [0, 1279, 1280], (s m).held = false ∧ 20 * ((s m).ms + 1) ≤ (s m).timer.length ∧
      (s m).front.whole = true ∧ (s m).config.isSome = true) ∧
    (s 1279).ms < 1280 ∧ 1280 ≤ (s 1280).ms ∧ (station .starting).front.whole = false ∧
    (station .starting).front.unbroken = false ∧ (loading .idle).config = none ∧
    (loading .idle).held = false ∧ 20 * ((loading .idle).ms + 1) ≤ (loading .idle).timer.length := by
  decide +kernel

/-- A demand of 5 mA in force for 10 of the 20 units gives way to the later one (R15), for 11 it counts;
the last millisecond of the keying span and the first of the tail. -/
theorem witness_SampleEndsMillisecond_demand :
    let s (m n : Nat) : State :=
      let s := at_ (20 * m + n) (station .regulating)
      s.setKeying { s.keying with segments := [(5, n)] }
    (∀ y ∈ [s 0 10, s 959 11, s 960 11], y.held = false ∧ 20 * (y.ms + 1) ≤ y.timer.length) ∧
      (s 959 11).ms < 960 ∧ 960 ≤ (s 960 11).ms ∧
      (after (.sample 0 0 0 0) (s 0 10)).keying.demandSum = (s 0 10).pins.demand ∧
      (after (.sample 0 0 0 0) (s 959 11)).keying.demandSum = 5 := by decide

/-- Offsets 7, 8, 11 and 14 of position 0 with the samples before them, and offset 0 of position 1 with the
fifteen of position 0 still held. -/
theorem witness_ChipValuesAreNineSampleMeans :
    ∀ k ∈ [7, 8, 11, 14, 15],
      let s0 := sampled .regulating (20 * k)
      let s := s0.setFront { s0.front with chipSamples := List.replicate k (-9000) }
      s.held = false ∧ s.ms < 960 ∧ 20 * (s.ms + 1) ≤ s.timer.length ∧ s.config = some settings ∧
        s.front.whole = true ∧ s.front.unbroken = true ∧
        (s.ms % 15 = 0 ∨ s.front.chipSamples.length = s.ms % 15) := by decide

theorem witness_RoundsToNearestTiesAway : 0 < 2 ∧ 2 * (5 - 2 * roundDiv 5 2).natAbs = 2 := by
  decide

/-- The two runs; the warn test at a cycle end without a boundary and with one, by the mean 1099 under the
warn level and 1100 at it, with the flag set 1129 and 1130; and the same left to a boundary. -/
theorem witness_SupplyIsMonitored :
    (∀ m ∈ [1099, 1100, 1129, 1130], ∀ warn, ∀ position ∈ [30, 31],
      let s0 := at_ 25600 (station .regulating)
      let s := { s0 with
        timer := { s0.timer with position := position }
        front := { s0.front with supplySum := 100 * m, supplyCount := 100 }
        supervisor := { s0.supervisor with warn := warn } }
      let flag := if warn then decide (m < 1130) else decide (m < 1100)
      let t := after (.cycleEnd { warnLast := true }) s
      s.held = false ∧ s.config = some settings ∧ 0 < s.front.supplyCount ∧
        (roundDiv s.front.supplySum s.front.supplyCount).toNat = m ∧
        (after (.cycleEnd {}) s).supervisor.warn = flag ∧
        (t.edge.bind CycleEdge.boundary).isSome = decide (position = 31) ∧
        (t.edge.bind CycleEdge.warnDue) = (if position = 31 then some m else none) ∧
        (after (.frameBoundary {}) t).supervisor.warn = flag) ∧
    (station .regulating).front.supplyCount = 0 ∧
    let s := sampled .regulating 0
    let b := sampled .brownout 0
    s.held = false ∧ s.config = some settings ∧ s.ms < 1280 ∧ 20 * (s.ms + 1) ≤ s.timer.length ∧
      s.supervisor.brownout = false ∧ b.supervisor.brownout = true ∧ 0 < s.front.supplyCount ∧
      s.supervisor.warn = false ∧
      (s.setSupervisor { s.supervisor with warn := true }).supervisor.warn = true := by
  decide +kernel

/-- Sampled and not; 64 prompt values whose residuals lie 500 apart, at the limit, and 501 apart. -/
theorem witness_KeyingSpanEndForms :
    let p (top : Int) := (sampled .regulating 19200).setFront
      { (sampled .regulating 19200).front with prompt := top :: List.replicate 63 0 }
    (p 500).front.prompt.length = 64 ∧ (p 501).front.prompt.length = 64 ∧
      (after .keyingSpanEnd (p 500)).correlator.residual = some false ∧
      (after .keyingSpanEnd (p 501)).correlator.residual = some true ∧
    let s := sampled .regulating 19200
    let u := at_ 19200 (station .regulating)
    s.held = false ∧ s.timer.phase = 19200 ∧ s.config = some settings ∧ s.front.unbroken = true ∧
      u.held = false ∧ u.timer.phase = 19200 ∧ u.config = some settings ∧
      u.front.unbroken = false := by decide +kernel

/-- Position 0, position 1 without and with an INTERRUPT survey, and a condition without output. -/
theorem witness_OffWindowDecided :
    let s (p : Nat) (v : Survey) (x : Condition) :=
      let s := at_ 19400 (station x)
      (s.setTimer { s.timer with position := p }).setSurvey v
    ∀ y ∈ [s 0 State.reset.survey .regulating, s 1 State.reset.survey .regulating,
        s 1 (running .interrupt 1) .survey, s 0 State.reset.survey .dark],
      y.held = false ∧ y.timer.phase = 19400 ∧ y.timer.window = .undecided := by decide

/-- A store of 511 records and a full one, the survey running, and a broken cycle. -/
theorem witness_WindowEndCaptures :
    (∀ n ∈ [511, 512],
      (windowed n).held = false ∧ (windowed n).config = some settings ∧
        (windowed n).timer.window = .opened ∧
        (windowed n).timer.phase = 20 * (970 + settings.windowLength) ∧
        (windowed n).front.unbroken = true ∧ (windowed n).survey.runs .interrupt = true ∧
        (windowed n).front.onPotential = some (-9500) ∧
        (windowed n).front.meanCurrent = some 12400 ∧
        (windowed n).correlator.residual = some false) ∧
      (windowed 511).capture.records.length < 512 ∧
      512 ≤ (windowed 512).capture.records.length ∧
      ((windowed 0).setFront State.reset.front).front.unbroken = false := by decide +kernel

/-- A locked station at frame position 15 whose entry on code 9 completes the worked frame there, seen at
offset 16 already 32 cycle ends ago; and again with the lock state given. -/
def confirming (lock : LockState) (loss : Nat) : State :=
  let s := sampled .regulating 25600
  let values (x : Int) := (List.range 64).map fun i => x * chip 9 i
  { s with
    timer := { s.timer with position := 15 }
    front := { s.front with early := values 1000, prompt := values 1000, late := values 1000 }
    correlator := { s.correlator with lanes := [none, some 9, none, none] }
    table :=
      { s.table with
        slots := (List.replicate 8 none).set 3
          (some
            { entry 9 .tracked (some 2) 300 0 with
              history := none :: (workedFrame.take 31).map some
              offset := some { offset := 16, count := 65535 } }) }
    frames := { s.frames with cycleCount := 30, watches := [none, some 31, none, none] }
    agreement := { s.agreement with lock := lock, loss := loss } }

/-- The confirming station realigns, unless the entry is struck; positions 0 and 31 otherwise. -/
theorem witness_CycleEndTurnsTimer :
    let y := confirming .locked 14
    (y.held = false ∧ y.timer.position < 32 ∧ y.timer.position ≠ 31 ∧ y.config = some settings ∧
      min (y.timer.length / 20) 1280 ≤ y.ms ∧ cycleUsable y = true ∧ y.agreement.loss ≠ 15 ∧
      some 9 ∈ y.correlator.lanes ∧ y.frames.watches.length = 4 ∧
      (entriesOf y.table.slots).all Entry.parityGood = true) ∧
      (after (.cycleEnd {}) y).edge.bind CycleEdge.boundary = some .forced ∧
      (after (.cycleEnd { ended := [3] }) y).edge.bind CycleEdge.boundary = none ∧
      (after (.cycleEnd {}) y).frames.watches = [none, some 63, none, none] ∧
    let s := sampled .regulating 25600
    let u := s.setTimer { s.timer with position := 31 }
    s.held = false ∧ s.timer.position < 32 ∧ s.timer.position ≠ 31 ∧ u.held = false ∧
      u.timer.position < 32 ∧ u.timer.position = 31 ∧ entriesOf s.table.slots = [] := by
  decide +kernel

theorem witness_CycleEndTurnsTimer_slots :
    SlotsOk settings.ownCode (confirming .unlocked 0).table.slots := by
  unfold SlotsOk EntryOk; decide +kernel

/-- The confirming frame is accepted and not aligned; at position 31 it is aligned too. A dwell end at the
forced boundary, none while the search lane waits; a device without a configuration. -/
theorem witness_CycleEndTurnsTimer_edge :
    let y := confirming .locked 14
    let z := y.setTimer { y.timer with position := 31 }
    let w := y.setCorrelator { y.correlator with waiting := true }
    let found (s : State) := (after (.cycleEnd {}) s).edge.map fun g => (g.accepted, g.aligned, g.dwellDue)
    found y = some ([9], [], true) ∧ found z = some ([9], [9], true) ∧
      found w = some ([9], [], false) ∧
      (after (.cycleEnd {}) y).correlator.lanes = [none, some 9, none, none] ∧
      (after (.cycleEnd {}) y).correlator.startCodes = [9] ∧
      (after (.cycleEnd {}) y).edge.bind CycleEdge.meanS = some 1200 ∧
      (loading .reading).config = none ∧ (loading .reading).held = false := by decide +kernel

theorem witness_BrokenCycleHandsNothing :
    (station .brownout).held = false ∧ (station .brownout).front.unbroken = false := by decide

/-- A usable cycle, one not keyed throughout, one marked overrange, one the residual test finds disturbed,
and the last of a relock span; samples at position 3 and 4 of a settle inhibit of 4. -/
theorem witness_CompleteCycleGathers :
    let s := sampled .regulating 25600
    let d := s.setCorrelator { s.correlator with residual := some true }
    let o (position : Nat) : State :=
      { s with
        timer := { s.timer with position := position }
        front := { s.front with instantOff := some { value := -8801, tag := .regulating } }
        regulation := { s.regulation with settle := true } }
    (∀ y ∈ [s, d, s.setAgreement { s.agreement with relock := 1 }, o 3, o 4],
      y.held = false ∧ y.config = some settings ∧ min (y.timer.length / 20) 1280 ≤ y.ms ∧
      y.front.unbroken = true ∧ y.correlator.xpSelf = some (-12800)) ∧
      s.correlator.residual = some false ∧ d.correlator.residual = some true ∧
      (o 3).timer.position < settings.settle ∧ settings.settle ≤ (o 4).timer.position ∧
      s.front.instantOff = none ∧ s.agreement.relock = 0 ∧
      s.front.overrange = false ∧ s.keying.keyed = true ∧ s.correlator.darkSeen = false ∧
      (s.setKeying State.reset.keying).keying.keyed = false ∧
      (s.setFront { s.front with overrange := true }).front.overrange = true := by decide +kernel

/-- Counts of 2 and 3, the cause inactive and active, a bad cycle (9719 mA) and a good one (9720 mA). -/
theorem witness_StageComparison :
    let s := sampled .regulating 25600
    (s.held = false ∧ s.config = some settings ∧ min (s.timer.length / 20) 1280 ≤ s.ms ∧
      s.front.unbroken = true ∧ s.correlator.xpSelf.isSome = true ∧
      s.correlator.residual.isSome = true ∧ s.front.meanCurrent = some 12400 ∧
      s.keying.meanDemand = some 12400) ∧
      s.keying.stage = false ∧ s.keying.badCount + 1 < 4 ∧
      (s.setKeying { s.keying with badCount := 3 }).keying.badCount + 1 = 4 ∧
      (s.setKeying { s.keying with stage := true, goodCount := 3 }).keying.goodCount + 1 = 4 ∧
      ((12400 : Int) + 1000 < 5 * |((9719 : Nat) : Int) - 12400|) ∧
      ¬((12400 : Int) + 1000 < 5 * |((9720 : Nat) : Int) - 12400|) := by decide

/-- A locked station with a loss count of 15 that hears code 9 late by far. -/
def slipping : State :=
  let s := sampled .regulating 25600
  { s with
    front :=
      { s.front with
        early := List.replicate 64 0
        prompt := (List.range 64).map fun i => -1000 * chip 9 i
        late := (List.range 64).map fun i => -1000 * chip 9 i }
    correlator := { s.correlator with lanes := [some 9, none, none, none] }
    table := { s.table with slots := [some (entry 9 .tracked (some 1) 300 0)] }
    agreement := { s.agreement with lock := .locked, loss := 15 } }

/-- A lock lost, and one that a fifteenth large error leaves standing. -/
theorem witness_LockLostLeavesWork :
    (∀ s ∈ [slipping.setAgreement { slipping.agreement with loss := 14 }],
      (after (.cycleEnd {}) s).agreement.lock = .locked ∧ s.supervisor.working = true ∧
        (after (.cycleEnd {}) s).supervisor.working = true) ∧
    exec (.cycleEnd {}) slipping = .next (after (.cycleEnd {}) slipping) ∧
      slipping.agreement.lock = .locked ∧
      (after (.cycleEnd {}) slipping).agreement.lock = .unlocked := by
  refine ⟨?_, rfl, ?_, ?_⟩ <;> decide +kernel

theorem witness_LockTakesEightLossSixteen :
    State.reset.agreement.acquisition + (List.replicate 7 (10 : Int)).length < 8 ∧
      (⟨.locked, 0, 15, 0⟩ : Agreement).loss + ([none] : List (Option Int)).countP Option.isSome < 16 ∧
      (⟨.solitary, 0, 0, 0⟩ : Agreement).lock = .solitary ∧
    State.reset.agreement.lock = .unlocked ∧ (List.replicate 8 (10 : Int)).length = 8 ∧
      (∀ e ∈ List.replicate 8 (10 : Int), e.natAbs ≤ 10) ∧ State.reset.agreement.acquisition < 8 ∧
      (none :: List.replicate 16 (some (31 : Int))).countP Option.isSome = 16 ∧
      ∀ e ∈ (none :: List.replicate 16 (some (31 : Int))), e.all fun x => 30 < x.natAbs := by decide

/-- A locked station that hears a large error, and one in FAULT. -/
theorem witness_LockTakesEightLossSixteen_cycle :
    slipping.held = false ∧ slipping.config = some settings ∧
      slipping.supervisor.condition ≠ .fault ∧
      (entriesOf slipping.table.slots).all Entry.parityGood = true ∧
      (station .fault).supervisor.condition = .fault ∧ (station .fault).held = false ∧
      (station .fault).config = some settings := by decide

/-- Codes at the ends of the range; and cycle-in-epoch 7 with S_n = 17, the last row of R9's table. -/
theorem witness_CodesAreOrthogonal :
    1 ≤ 63 ∧ 63 < 64 ∧ 1 ≤ 1 ∧ (63 : Nat) ≠ 1 ∧ 7 = 31 % 8 ∧
      (7, 17) ∈ [(0, 0), (1, 45), (2, 27), (3, 54), (4, 11), (5, 38), (6, 60), (7, 17)] ∧
      (List.replicate 64 (5 : Int)).length ≤ 64 := by decide

theorem witness_FiguresKeepRanges :
    let v := fun x => (List.range 64).map fun i => x * chip 9 i
    influence settings.depth (corrSum settings.order 0 9 (v 9)) < settings.gDetect ∧
      settings.gDetect ≤ influence settings.depth (corrSum settings.order 0 9 (v 10)) ∧
    timingError 0 800 = some 60 ∧ timingError 800 0 = some (-60) ∧
      weightedError [(5, 60), (7, 60)] = some 60 ∧
      ∀ x ∈ [((5, 60) : Nat × Int), (7, 60)], -60 ≤ x.2 ∧ x.2 ≤ 60 := by decide +kernel

/-- A dwell end with an offer, at a boundary and away from one, and one without a figure. -/
theorem witness_DwellEndOffersAndMoves :
    let s (b : Option BoundaryKind) (n : Nat) :=
      ((station .dark).setEdge (some (edge b))).setCorrelator
        { State.reset.correlator with dwellCode := 63, dwellSum := 50 * n, dwellCount := n }
    (∀ y ∈ [s none 8, s (some .ordinary) 8, s none 0],
      y.held = false ∧ y.config = some settings ∧ (y.edge.map CycleEdge.dwellDue) = some true ∧
        y.correlator.waiting = false ∧ y.correlator.dwellCode ∉ codesOf y.table.slots) ∧
      settings.gDetect ≤ (roundDiv 400 8).toNat := by decide

theorem witness_NextDwellIsFirstEligible :
    1 ≤ 62 ∧ 62 ≤ 63 ∧ 1 ≤ 61 ∧ [63, 1, 2, 3, 4, 5, 6, 7].length ≤ 8 ∧
      nextDwell 62 [63, 1, 2, 3, 4, 5, 6, 7] 63 61 = 8 := by decide

/-- The full table, weakest PARKED entry 44 in slot 5, and a table with free slots. -/
theorem witness_AdmissionChoosesSlot :
    (codesOf fullTable).Nodup ∧ 19 ∉ codesOf fullTable ∧ (∀ o ∈ fullTable, o ≠ none) ∧
      fullTable[5]? = some (some (entry 44 .parked none 90 3)) ∧
      (∀ e ∈ entriesOf fullTable, e.state = .parked →
        90 < e.g ∨ (90 = e.g ∧ e.code ≤ 44)) ∧
      (codesOf contest).Nodup ∧ contest[5]? = some none ∧ (∀ j < 5, contest[j]? ≠ some none) ∧
      ∀ e ∈ entriesOf contest, e.state ≠ .parked := by decide

/-- A CANDIDATE of g 5 over a PARKED entry of g 900, and ties broken by the lower code. -/
theorem witness_ArbiterOpensOneLane_ranking :
    outranks (entry 63 .candidate none 5 0) (entry 1 .parked none 900 200) = true ∧
      outranks (entry 1 .parked none 900 200) (entry 63 .candidate none 5 0) = false ∧
      outranks (entry 14 .candidate none 130 0) (entry 15 .candidate none 130 0) = true ∧
      outranks (entry 14 .candidate none 129 0) (entry 15 .candidate none 130 0) = false ∧
      outranks (entry 14 .parked none 5 17) (entry 15 .parked none 900 17) = true ∧
      outranks (entry 14 .parked none 900 16) (entry 15 .parked none 5 17) = false := by decide

/-- The contest with no free lane, and again with lane 4 lost. -/
theorem witness_ArbiterOpensOneLane :
    SlotsOk 5 contest ∧ SlotsOk 5 (contest.set 3 none) ∧ freeLanes contest = [] ∧
      (freeLanes (contest.set 3 none)).head? = some 4 ∧
      waitersOf contest = [entry 14 .candidate none 130 0] ∧ waitersOf [] = [] ∧
      (entriesOf contest).all (fun e => !e.lane.isSome || 70 < e.g || (70 = e.g && e.code ≤ 40)) := by
  refine ⟨?_, ?_, ?_⟩
  · unfold SlotsOk EntryOk; decide
  · unfold SlotsOk EntryOk; decide
  · decide

/-- An entry with and without figures, a frame found at positions 31, 15 (confirmed and not) and 0, and
none found with the watch due; a pending offset 32 and 33 cycle ends old. -/
theorem witness_FrameFigureUpdatesEntry :
    let e := { entry 9 .tracked (some 1) 600 0 with
      history := none :: (workedFrame.take 31).map some, offset := some { offset := 16, count := 68 } }
    let r : LaneResult := { code := 9, place := some true, figure := some 500, timing := none }
    let o (p : Nat) := entryAtCycleEnd settings .regulating true p 100 (some 100) r e
    (o 31).aligned = true ∧ (o 15).realigns = true ∧ (o 14).accepted = false ∧
      (o 0).accepted = false ∧
      (entryAtCycleEnd settings .regulating false 31 100 (some 100) r e).entry.discarded = 1 ∧
      countsSince 100 68 = 32 ∧ countsSince 101 68 = 33 ∧
    (entry 9 .tracked (some 1) 600 0).frameCount = 0 ∧
      0 < ({ entry 9 .tracked (some 1) 600 0 with frameSum := 24, frameCount := 1 }).frameCount := by
  decide +kernel

/-- Both kinds of boundary, every entry good and no dwell end or offer owed. -/
theorem witness_BoundaryBuildsFrame :
    (let s := ((boundary .forced .regulating).setTable { slots := contest, errors := 0 }).setEdge
      (some { edge (some .forced) with dwellDue := false })
    s.held = false ∧ s.config = some settings ∧ (s.edge.map CycleEdge.dwellDue) = some false ∧
      (s.edge.bind CycleEdge.offer) = none ∧
      (entriesOf s.table.slots).all Entry.parityGood = true) ∧
    ∀ kind ∈ [BoundaryKind.ordinary, .forced],
      (boundary kind .regulating).held = false ∧
        (boundary kind .regulating).config = some settings ∧
        (boundary kind .regulating).edge = some (edge (some kind)) ∧
        (edge (some kind)).boundary = some kind := by decide

/-- A sound table with lanes lost and opened, a dwell end taken and one waiting, a start of a cycle keyed as
its condition has it, and a boundary that enters FAULT. -/
theorem witness_BoundaryBuildsFrame_newFrame :
    let b := boundary .ordinary .regulating
    let s := b.setTable { slots := contest.set 3 none, errors := 0 }
    let w := b.setCorrelator { b.correlator with waiting := true }
    let f := b.setCorrelator
      { b.correlator with selfSum := -9000, selfCount := 3, reversed := 1 }
    SlotsOk settings.ownCode s.table.slots ∧ s.held = false ∧ s.config = some settings ∧
      s.edge = some (edge (some .ordinary)) ∧ s.timer.phase = 0 ∧ s.timer.window ≠ .opened ∧
      (after .cycleEnd b).keying.keyed = (after .cycleEnd b).supervisor.condition.output ∧
      (after (.frameBoundary {}) s).correlator.lanes ≠ s.correlator.lanes ∧
      s.correlator.waiting = false ∧ w.correlator.waiting = true ∧
      f.supervisor.condition ≠ .fault ∧
      (after (.frameBoundary {}) f).supervisor.condition = .fault := by
  refine ⟨?_, by decide +kernel⟩
  unfold SlotsOk EntryOk; decide

/-- An offer that a dwell end still owed brings to the boundary, one that has come already, and none. -/
theorem witness_BoundaryBuildsFrame_offer :
    let s0 := (boundary .ordinary .dark).setCorrelator
      { State.reset.correlator with dwellCode := 63, dwellSum := 400, dwellCount := 8 }
    let s1 := (boundary .ordinary .dark).setEdge
      (some { edge (some .ordinary) with dwellDue := false, offer := some (62, 50) })
    let s2 := boundary .forced .dark
    (∀ y ∈ [s0, s1, s2], y.held = false ∧ y.config = some settings ∧ entriesOf y.table.slots = []) ∧
      (s0.edge.map CycleEdge.dwellDue) = some true ∧ s0.correlator.waiting = false ∧
      0 < s0.correlator.dwellCount ∧ settings.gDetect ≤ (roundDiv 400 8).toNat ∧
      codesOf (after (.frameBoundary {}) s0).table.slots = [63] ∧
      (s1.edge.map CycleEdge.dwellDue) = some false ∧
      codesOf (after (.frameBoundary {}) s1).table.slots = [62] := by decide +kernel

/-- A boundary with no survey, at which a DEPOLARIZE starts, and at which one ends. -/
theorem witness_BoundaryAppliesStep :
    let s := boundary .ordinary .regulating
    let p := s.setSurvey { running .depolarize 1 with phase := .pending }
    let e := s.setSurvey (running .depolarize 1)
    (∀ y ∈ [s, p, e], y.held = false ∧ y.config = some settings ∧
      y.edge = some (edge (some .ordinary)) ∧ y.regulation.setCurrent = some 1240) ∧
      s.survey.runs .depolarize = false ∧
      (after (.frameBoundary {}) s).survey.runs .depolarize = false ∧
      p.survey.runs .depolarize = false ∧
      (after (.frameBoundary {}) p).survey.runs .depolarize = true ∧
      e.survey.runs .depolarize = true ∧
      (after (.frameBoundary {}) e).survey.runs .depolarize = false := by decide +kernel

/-- A DEPOLARIZE that runs on through a boundary, and one that another generation's takes over from: the
current in force is K, and the current saved already stands. -/
theorem witness_BoundaryAppliesStep_runsOn :
    let s := ((boundary .ordinary .regulating).setSurvey (running .depolarize 64)).setRegulation
      { State.reset.regulation with setCurrent := some 20, resume := some 1240 }
    let n := (s.setTable
      { slots := [some { entry 9 .tracked (some 1) 300 0 with
          record := some (heard 6 .depolarize .running 3) }]
        errors := 0 }).setEdge (some { edge (some .ordinary) with accepted := [9], dwellDue := false })
    (∀ y ∈ [s, n], y.held = false ∧ y.config = some settings ∧ y.survey.runs .depolarize = true ∧
      (y.edge.bind CycleEdge.boundary) = some .ordinary ∧ y.regulation.setCurrent = some 20 ∧
      (after (.frameBoundary {}) y).survey.runs .depolarize = true ∧
      (after (.frameBoundary {}) y).regulation.setCurrent = some 20 ∧
      (after (.frameBoundary {}) y).regulation.resume = some 1240) ∧
      (after (.frameBoundary {}) s).survey.generation = 5 ∧
      (after (.frameBoundary {}) s).regulation.settle = false ∧
      (after (.frameBoundary {}) n).survey.generation = 6 ∧
      (after (.frameBoundary {}) n).regulation.settle = true := by decide +kernel

theorem witness_OnlyRegulatingPlans :
    (boundary .ordinary .holding).held = false ∧
      (boundary .ordinary .holding).config = some settings ∧
      (boundary .ordinary .holding).edge = some (edge (some .ordinary)) ∧
      (after (.frameBoundary {}) (boundary .ordinary .holding)).supervisor.condition ≠ .regulating ∧
      (after (.frameBoundary {}) (boundary .ordinary .regulating)).regulation.noself = true := by
  decide +kernel

/-- Inputs for each clause: the range's ends, the voltage hold, no mean, no self figure, spacing. -/
theorem witness_PlanKeepsLimits :
    0 ≤ settings.stepLimit ∧
      (∀ i ∈ [settings.iMin, settings.iMax], settings.iMin ≤ i ∧ i ≤ settings.iMax) ∧
      let i : PlanInput :=
        { mean := some (-8000), gSelf := 1250, gSelfValid := true, setCurrent := 1240, applied := 0,
          neighbours := [], voltageLimit := true, spacing := none }
      (planStep settings i).vlimit = true ∧
        (planStep settings { i with voltageLimit := false, setCurrent := 1990 }).ilimit = true ∧
        (planStep settings { i with mean := none }).step = 0 ∧
        (49 : Nat) < settings.gDetect ∧ 0 < settings.spacing ∧
        (-9549 - settings.target -
          anticipation { i with mean := some (-9549) }).natAbs < settings.deadBand ∧
        settings.deadBand ≤ |(-9550 : Int) - settings.target| ∧ (-11001 : Int) < settings.floor ∧
        settings.spacing ≤ 1 ∧ settings.gDetect ≤ i.gSelf := by decide

/-- HOLD, FREE and none pending; a FREEZE and a cancel to originate; and a failed load. -/
theorem witness_BoundaryTakesRequests :
    StationOk (drive (((loading .ended).setSupervisor
      { State.reset.supervisor with
        condition := .fault, faultCause := some .config, pendingHold := some .free }).setEdge
          (some (edge (some .ordinary))))) ∧
      StationOk ((loading .reading).setEdge (some (edge (some .ordinary)))) ∧
    let s (h : Option HoldRequest) (o : Option (SurveyKind × Nat)) :=
      let s := boundary .ordinary .regulating
      (s.setSupervisor { s.supervisor with pendingHold := h }).setSurvey
        { s.survey with origination := o }
    (∀ y ∈ [s (some .hold) (some (.freeze, 31)), s (some .free) (some (.none, 1)), s none none],
      y.held = false ∧ y.config = some settings ∧ y.edge = some (edge (some .ordinary))) ∧
      (s (some .hold) none).supervisor.pendingHold = some .hold ∧
      (s none (some (.freeze, 31))).survey.origination = some (.freeze, 31) ∧
      (s none (some (.none, 1))).survey.origination ≠ none := by
  unfold StationOk; decide

/-- The sixteenth solitary boundary, and a LOCKED station's second aligned frame from code 9. -/
theorem witness_QualificationSetsWorking :
    let a := boundary .ordinary .acquiring
    let s := a.setSupervisor { a.supervisor with solitary := 15 }
    let q := ((a.setSupervisor { a.supervisor with lastAligned := [9] }).setAgreement
        { a.agreement with lock := .locked }).setTable
      { a.table with slots := [some (entry 9 .tracked (some 1) 300 0)] }
    let q := q.setEdge (some { edge (some .ordinary) with accepted := [9], aligned := [9] })
    (∀ x ∈ [Condition.regulating, .dark, .brownout, .fault],
      let b := boundary .forced x
      b.held = false ∧ b.config = some settings ∧ b.edge = some (edge (some .forced)) ∧
        b.supervisor.condition = conditionOf b.config.isSome b.supervisor ∧
        b.timer.window ≠ .opened ∧ b.pins = pinsNow b ∧ b.supervisor.condition ≠ .acquiring ∧
        b.agreement.lock ≠ .solitary) ∧
    s.held = false ∧ s.config = some settings ∧ s.edge = some (edge (some .ordinary)) ∧
      s.supervisor.condition = .acquiring ∧ q.held = false ∧ q.config = some settings ∧
      q.supervisor.condition = .acquiring ∧
      (after (.frameBoundary {}) s).supervisor.solitary = 16 ∧
      (after (.frameBoundary {}) q).supervisor.working = true := by decide +kernel

/-- A SOLITARY station with a TRACKED entry, and a boundary in ACQUIRING that decides nothing. -/
theorem witness_QualificationSetsWorking_agreement :
    let b (x : Condition) (lock : LockState) (e : Entry) :=
      let b := (boundary .ordinary x).setEdge (some { edge (some .ordinary) with dwellDue := false })
      (b.setAgreement { lock := lock, acquisition := 3, loss := 5, relock := 2 }).setTable
        { slots := [some e, none, none, none, none, none, none, none], errors := 0 }
    let agreed (s : State) := (after (.frameBoundary {}) s).agreement
    let n := entry 9 .tracked (some 1) 300 0
    agreed (b .regulating .solitary n) = { lock := .locked, acquisition := 3, loss := 0, relock := 2 } ∧
      agreed (b .acquiring .unlocked n) =
        { lock := .unlocked, acquisition := 3, loss := 5, relock := 2 } ∧
      (entriesOf (after (.frameBoundary {}) (b .regulating .solitary n)).table.slots).any
        Entry.isTracked = true ∧
      ∀ s ∈ [b .regulating .solitary n, b .acquiring .unlocked n],
        s.held = false ∧ s.config = some settings ∧
          (s.edge.bind CycleEdge.boundary) = some .ordinary := by decide +kernel

/-- A mean of exactly -50 with g_detect 50; and means of 50, 49 and -49, and none. -/
theorem witness_ReversedFaults :
    (∀ x ∈ [(50 : Int), 49, -49, -50],
      let b := boundary .ordinary .regulating
      let s := b.setCorrelator { b.correlator with selfSum := 32 * x, selfCount := 32 }
      s.held = false ∧ s.config = some settings ∧ s.edge = some (edge (some .ordinary)) ∧
        0 < s.correlator.selfCount ∧ roundDiv s.correlator.selfSum s.correlator.selfCount = x) ∧
      (boundary .ordinary .regulating).correlator.selfCount = 0 ∧
    let b := boundary .ordinary .regulating
    let s := b.setCorrelator { b.correlator with selfSum := -1600, selfCount := 32, reversed := 1 }
    s.held = false ∧ s.config = some settings ∧ s.edge = some (edge (some .ordinary)) ∧
      0 < s.correlator.selfCount ∧ roundDiv s.correlator.selfSum s.correlator.selfCount = -50 ∧
      settings.gDetect ≤ (-50 : Int).natAbs ∧ s.correlator.reversed = 1 ∧
      s.supervisor.faultCause = none := by decide

theorem witness_FaultStands :
    StationOk (station .fault) ∧ (station .fault).supervisor.faultCause = some .reversed ∧
      exec .hold (station .fault) = .next (after .hold (station .fault)) := by
  refine ⟨?_, ?_, rfl⟩
  · unfold StationOk; decide
  · decide

/-- Generations 7 ahead and 8 ahead of 14, a frame of generation 0 with kind NONE, and a ring of three
generations with none unexceeded. -/
theorem witness_NewestGenerationIsAdopted :
    let v := { endedSurvey with generation := 14 }
    v.valid = true ∧ v.generation < 16 ∧ v.isNewer (heard 5 .freeze .pending 3) = true ∧
      v.isNewer (heard 6 .freeze .pending 3) = false ∧
      (heard 0 .none .over 0).generation = 0 ∧ (heard 0 .none .over 0).kind = .none ∧
      State.reset.survey.valid = false ∧
      (∀ y ∈ [(1 : Nat), 6, 12], ∃ x ∈ [(1 : Nat), 6, 12], generationAhead x y = true ∧
        State.reset.survey.isNewer (heard x .freeze .pending 3) = true) ∧
      (∃ f ∈ [SurveyFrame.mk 9 (heard 5 .freeze .pending 3)], v.isNewer f.record = true) := by
  refine ⟨rfl, by decide, by decide, by decide, rfl, rfl, rfl, by decide, ?_⟩
  exact ⟨_, List.mem_singleton.2 rfl, by decide⟩

/-- A record that pends and hears its own survey running, one over, and two orders of two frames. -/
theorem witness_MergeIgnoresOrder :
    ({ running .freeze 5 with phase := .pending }).valid = true ∧
      endedSurvey.phaseNow = .over ∧
      ({ running .freeze 5 with phase := .pending }).merge
          [SurveyFrame.mk 9 (heard 5 .freeze .running 2)] = running .freeze 64 ∧
    let f := SurveyFrame.mk 9 (heard 5 .freeze .pending 3)
    let h := SurveyFrame.mk 4 (heard 5 .interrupt .running 2)
    [f, h].Perm [h, f] := by
  refine ⟨rfl, rfl, by decide, List.Perm.swap _ _ _⟩

theorem witness_CountdownStartsAndEnds :
    let p := { running .freeze 1 with phase := .pending }
    p.valid = true ∧ p.kind ≠ .none ∧ p.count = 0 + 1 ∧ p.phase = .pending ∧
      (running .interrupt 512).count = 511 + 1 ∧ (running .interrupt 512).phase = .running := by
  decide

/-- An offer made before a BROWNOUT entry of the same cycle end is admitted at the boundary, and none is
made after it (log 34); an entry struck as the boundary's cycle starts is gone (R70, log 6). -/
theorem test_offer_and_entry :
    let b := (boundary .ordinary .regulating).setEdge
      (some { edge (some .ordinary) with meanS := some 899 })
    let s := b.setCorrelator
      { State.reset.correlator with dwellCode := 63, dwellSum := 400, dwellCount := 8 }
    let codes (t : State) := codesOf (after (.frameBoundary {}) t).table.slots
    codes (after .brownoutEntry (after .dwellEnd s)) = [63] ∧ codes (after .brownoutEntry s) = [] ∧
      codesOf (after (.frameBoundary { started := [0] }) s).table.slots = [] := by decide +kernel

/-- A neighbour's survey of the present boundary is adopted and counted down once there, and an own one
originated. -/
theorem witness_CountdownStartsAndEnds_boundary :
    let b := boundary .ordinary .regulating
    let s := (b.setTable
      { slots := [some { entry 9 .tracked (some 1) 300 0 with record := some (heard 6 .freeze .pending 3) }]
        errors := 0 }).setEdge (some { edge (some .ordinary) with accepted := [9], dwellDue := false })
    let o := b.setSurvey { b.survey with origination := some (.freeze, 31) }
    s.held = false ∧ s.config = some settings ∧ (s.edge.bind CycleEdge.boundary) = some .ordinary ∧
      (after (.frameBoundary {}) s).survey =
        { valid := true, generation := 6, kind := .freeze, phase := .pending, count := 2,
          origination := none } ∧
      (after (.frameBoundary {}) s).supervisor.surveyRunning = false ∧
      (after (.frameBoundary {}) o).survey.count = 31 := by decide +kernel

/-- Every condition is met by a sound state. -/
theorem witness_ConditionFollowsFacts :
    StationOk (station .regulating) ∧ StationOk (station .dark) ∧ StationOk (station .survey) ∧
      StationOk State.reset ∧ State.reset.config = none ∧
      State.reset.supervisor.faultCause = none := by
  unfold StationOk; decide

/-- A station with output and one in BROWNOUT, an open window, and the keying span's last unit and the
tail's first. -/
theorem witness_MainsDarkensAndReturns :
    StationOk (windowed 0) ∧ (windowed 0).timer.window = .opened ∧
      (after (.mainsChange false 0) (windowed 0)).timer.window = .cutShort ∧
      (after (.mainsChange false 19) (at_ 19180 (station .regulating))).timer.phase = 19199 ∧
      StationOk (at_ 19180 (station .regulating)) ∧
      (station .regulating).timer.window ≠ .opened ∧
      ((boundary .ordinary .dark).edge.isSome = true ∧ StationOk (boundary .ordinary .dark)) ∧
      (State.reset.held = true ∧ State.reset.config = none ∧ StationOk State.reset ∧
        (after .resetEnd (after (.mainsChange false 0) State.reset)).supervisor.mains = false) ∧
    (station .regulating).held = false ∧ StationOk (station .regulating) ∧
      (station .regulating).supervisor.faultCause = none ∧
      (station .regulating).supervisor.brownout = false ∧ StationOk (station .brownout) ∧
      (station .brownout).supervisor.brownout = true := by
  unfold StationOk; decide

/-- By the low run of 100 in the keying span and at ms 1279, and by a mean of 899. -/
theorem witness_BrownoutEntrySilences :
    let s0 := station .regulating
    let k := drive ((at_ 100 s0).setSupervisor { s0.supervisor with lowRun := 100 })
    StationOk k ∧ k.timer.phase < 19200 ∧ k.ms < min (k.timer.length / 20) 1280 ∧
      k.supervisor.lowRun = 100 ∧
    let r := drive ((at_ 25580 s0).setSupervisor { s0.supervisor with lowRun := 100 })
    let m := s0.setEdge (some { edge none with meanS := some 899 })
    StationOk r ∧ StationOk m ∧ r.held = false ∧ r.config = some settings ∧
      r.supervisor.brownout = false ∧ r.supervisor.faultCause = none ∧
      r.supervisor.lowRun = 100 ∧ r.ms < min (r.timer.length / 20) 1280 ∧
      m.supervisor.brownout = false ∧ (m.edge.bind CycleEdge.meanS) = some 899 := by
  unfold StationOk; decide

/-- A mean S of 1200 ends BROWNOUT: the cycle end's warn test takes it first, and the flag is clear at the
exit and after it (log 39). -/
theorem test_warn_before_exit :
    let s0 := sampled .brownout 25600
    let s := s0.setSupervisor { s0.supervisor with warn := true }
    let e := after .cycleEnd s
    let x := after .brownoutExit e
    (e.edge.bind CycleEdge.meanS) = some 1200 ∧ settings.warnLevel + 30 = 1130 ∧
      e.supervisor.brownout = true ∧ e.supervisor.warn = false ∧
      x.supervisor.brownout = false ∧ x.supervisor.warn = false := by decide +kernel

/-- A high run that ends BROWNOUT at a cycle end uses up its mean of 880, and a low run that begins one its
mean of 960 (log 21). -/
theorem test_run_uses_mean :
    let s (x : Condition) (low high mean : Nat) :=
      let s := (station x).setEdge (some { edge none with dwellDue := false, meanS := some mean })
      drive (s.setSupervisor { s.supervisor with lowRun := low, highRun := high })
    let x := after .brownoutExit (s .brownout 0 100 880)
    let n := after .brownoutEntry (s .regulating 100 0 960)
    x.supervisor.brownout = false ∧ brownoutEntryDue x = false ∧
      n.supervisor.brownout = true ∧ brownoutExitDue n = false := by decide +kernel

/-- By the high run of 100, and by a mean of 950, MAINS present. -/
theorem witness_BrownoutExitRelocks :
    let s0 := station .brownout
    let r := s0.setSupervisor { s0.supervisor with highRun := 100 }
    let m := s0.setEdge (some { edge none with meanS := some 950 })
    r.held = false ∧ r.config = some settings ∧ r.supervisor.brownout = true ∧
      r.supervisor.faultCause = none ∧ r.supervisor.working = false ∧
      r.supervisor.condition = .brownout ∧ r.front.unbroken = false ∧
      r.supervisor.highRun = 100 ∧ r.ms < min (r.timer.length / 20) 1280 ∧
      (m.edge.bind CycleEdge.meanS) = some 950 ∧ r.timer.window ≠ .opened ∧
      (r.supervisor.mains = true ∧
        (r.setSupervisor { r.supervisor with mains := false }).supervisor.highRun = 100) ∧
      (at_ 20 r).timer.phase < 19200 ∧ (at_ 25580 r).ms < min (r.timer.length / 20) 1280 ∧
      m.timer.phase = 0 ∧ m.edge.isSome = true := by decide

/-- Under FAULT, the entry by the low run and the exit by a mean of 950. -/
theorem witness_BrownoutUnderFault :
    let s0 := station .fault
    let e := drive (s0.setSupervisor { s0.supervisor with lowRun := 100 })
    let x := drive ((s0.setSupervisor { s0.supervisor with brownout := true }).setEdge
      (some { edge none with meanS := some 950 }))
    StationOk e ∧ StationOk x ∧ e.held = false ∧ x.held = false ∧ e.config = some settings ∧
      x.config = some settings ∧ e.supervisor.brownout = false ∧ x.supervisor.brownout = true ∧
      e.supervisor.faultCause ≠ none ∧ x.supervisor.faultCause ≠ none ∧
      e.supervisor.lowRun = 100 ∧ e.ms < min (e.timer.length / 20) 1280 ∧
      (x.edge.bind CycleEdge.meanS) = some 950 := by
  unfold StationOk; decide

/-- A buffer of 31 characters, one of 32, and an overlong line. -/
theorem witness_CharactersFillBuffer :
    let s (n : Nat) (o : Bool) := (station .regulating).setService
      { State.reset.service with buffer := List.replicate n 65#8, overlong := o }
    (∀ y ∈ [s 31 false, s 32 false, s 32 true],
      serviceReady y = true ∧ y.pins = pinsNow y) ∧
      (s 31 false).service.buffer.length < 32 ∧ 32 ≤ (s 32 false).service.buffer.length ∧
      (s 32 true).service.overlong = true ∧ (65#8 : Byte) ≠ 0x0D#8 ∧ (65#8 : Byte) ≠ 0x0A#8 := by
  decide

/-- An overlong line, a bad character, a blank line, a line that names a command, and another. -/
theorem witness_CarriageReturnTakesLine :
    (let o := (station .regulating).setService { State.reset.service with overlong := true }
    let b := (station .regulating).setService { State.reset.service with badCharacter := true }
    serviceReady o = true ∧ o.pins = pinsNow o ∧ o.service.overlong = true ∧
      serviceReady b = true ∧ b.pins = pinsNow b ∧ b.service.overlong = false ∧
      b.service.badCharacter = true) ∧
    let s (line : String) := (station .regulating).setService
      { State.reset.service with buffer := line.toList.map fun ch => BitVec.ofNat 8 ch.toNat }
    let words (line : String) := wordsOf (bufferText (s line).service.buffer)
    serviceReady (s "") = true ∧ (s "").pins = pinsNow (s "") ∧ words " " = [] ∧
      commandOf (words "CAPT 64") = some (.capt 64) ∧ words "status" ≠ [] ∧
      commandOf (words "status") = none := by decide +kernel

/-- Words, numbers and kinds at the edges of the grammar of R172. -/
theorem witness_CarriageReturnTakesLine_grammar :
    wordsOf "  CAPT  007 ".toList = ["CAPT".toList, "007".toList] ∧
      numberOf "007".toList = some 7 ∧ numberOf "1A".toList = none ∧ numberOf [] = none ∧
      kindOf "NONE".toList = some .none ∧ kindOf "none".toList = none ∧
      commandOf ["SURVEY".toList, "NONE".toList, "31".toList] = some (.survey .none 31) ∧
      commandOf ["HOLD".toList, "1".toList] = none ∧ commandOf ["CAPT".toList] = none := by
  decide +kernel

/-- The ends of the ranges, a condition that refuses, and a busy line. -/
theorem witness_RefusalsHaveNoEffect :
    serviceReady (station .starting) = true ∧
      (station .starting).pins = pinsNow (station .starting) ∧
      (station .starting).supervisor.condition = .starting ∧ (64 : Nat) < 65 ∧ (31 : Nat) < 32 ∧
      (station .dark).supervisor.condition ∉
        [Condition.regulating, Condition.holding, Condition.survey] ∧
      serviceReady (station .dark) = true ∧
      (after .status (station .dark)).service.reply ≠ none ∧
      (after .restart (station .dark)).service.pendingRestart = true := by decide +kernel

/-- With no set current and with one. -/
theorem witness_StatusOnlyReports :
    serviceReady (station .starting) = true ∧
      (station .starting).pins = pinsNow (station .starting) ∧
      State.reset.regulation.setCurrent = none ∧
      (station .starting).regulation.setCurrent = some 1240 ∧ (0 : Int) ≤ 1240 := by decide

/-- CAPT 1 and CAPT 64 on a store of 3 records. -/
theorem witness_CaptTakesOldest :
    let s := (station .regulating).setCapture
      { State.reset.capture with records := List.replicate 3 ⟨0, 0, 0, none, 0, 0, false, false⟩ }
    serviceReady s = true ∧ s.pins = pinsNow s ∧ s.supervisor.condition ≠ .starting ∧
      1 ≤ 1 ∧ 64 ≤ 64 ∧ s.capture.records.length = 3 := by decide

theorem witness_RequestsStayPending :
    serviceReady (station .holding) = true ∧
      (station .holding).pins = pinsNow (station .holding) ∧
      (station .holding).supervisor.condition ≠ .starting ∧
      (station .holding).supervisor.condition ∈
        [Condition.regulating, Condition.holding, Condition.survey] := by decide

theorem witness_ClearKeepsPresentCauses :
    serviceReady (station .fault) = true ∧ (station .fault).supervisor.condition ≠ .starting := by
  decide

/-- A TABLE reply at slot 0 before the entry in slot 1, past the last slot, and at a failing entry; a
reply with every line read; and the entry struck at a cycle end and at a boundary. -/
theorem witness_TableReplyRuns :
    let e := entry 9 .tracked (some 1) 300 0
    let s (slot : Nat) (good : Bool) :=
      drive (((station .regulating).setTable
        { slots := (List.replicate 8 none).set 1 (some { e with parityGood := good }), errors := 0 }).setService
        { State.reset.service with
          reply := some { lines := [], cursor := some { slot := slot, sent := 0 } } })
    let r := (s 1 true).setEdge (some (edge (some .ordinary)))
    (r.held = false ∧ r.config = some settings ∧
      (after (.frameBoundary { work := [1] }) r).table.errors = 1 ∧
      (after (.frameBoundary { started := [1] }) r).table.slots[1]? = some none ∧
      (after (.cycleEnd { ended := [1] }) (s 1 true)).table.slots[1]? = some none ∧
      (after (.tableLineRead [1]) (s 1 true)).table.slots[1]? = some none) ∧
    (after .hold (station .regulating)).pins = pinsNow (after .hold (station .regulating)) ∧
    (∀ y ∈ [s 0 true, s 8 true, s 1 false], y.held = false ∧ y.pins = pinsNow y ∧
      y.table.slots.length = 8) ∧
      (s 0 true).table.slots[0]? = some none ∧ (s 0 true).table.slots[1]? = some (some e) ∧
      (s 2 true).table.slots[7]? = some none ∧
      (s 1 false).table.slots[1]? = some (some { e with parityGood := false }) ∧
      serviceReady (station .regulating) = true ∧
      ((after .hold (station .regulating)).service.reply.map Reply.cursor) = some none := by
  decide +kernel

/-- Frames of a sound check that fail one test of R98 or R99 alone, beside the worked frame that passes
all; a wrong check; and two places erased. The step of -256 stands with a check of its own. -/
theorem witness_FrameHeardAsBuilt_refused :
    let checked (body : List Bool) :=
      body ++ [3, 2, 1, 0].map fun k => (checkOf body).testBit k
    let body := workedFrame.take 28
    checked body = workedFrame ∧ checkOf workedFrame = 0 ∧
      (∀ places ∈ [checked (body.set 2 true), checked ((body.set 5 true).set 10 false),
          checked (body.set 20 true), checked (body.set 19 true),
          checked ((body.set 18 true).set 20 true), workedFrame.set 31 false],
        places.length = 32 ∧ frameTest (places.map some) = none) ∧
      (∀ places ∈ [checked (body.set 2 true), checked ((body.set 5 true).set 10 false),
          checked (body.set 20 true)], checkOf places = 0) ∧
      (((workedFrame.map some).set 10 none).set 20 none).countP Option.isNone = 2 := by
  decide +kernel

/-- Two entries that fail at a cycle end, and in a boundary's work, count twice; one struck before
regulation's read goes after the arbitration, and neither its announced step nor its lane stands. -/
theorem witness_TableReplyRuns_counts :
    let announcing (code lane : Nat) :=
      { entry code .tracked (some lane) 300 0 with
        record := some { heard 0 .none .over 0 with step := 7 } }
    let s := ((boundary .ordinary .regulating).setEdge
        (some { edge (some .ordinary) with accepted := [9], dwellDue := false })).setTable
      { slots := [some (announcing 9 1), some (entry 10 .candidate none 70 0), none,
          some { entry 11 .parked none 80 3 with parityGood := false }, none, none, none, none]
        errors := 7 }
    let e := after (.cycleEnd { ended := [0] }) s
    let w := after (.frameBoundary { work := [1] }) s
    let a := after (.frameBoundary { work := [1], apply := [0] }) s
    s.held = false ∧ s.config = some settings ∧ (s.edge.bind CycleEdge.boundary) = some .ordinary ∧
      e.table.errors = 9 ∧ codesOf e.table.slots = [10] ∧
      w.table.errors = 9 ∧ codesOf w.table.slots = [9] ∧ w.regulation.settle = true ∧
      a.table.errors = 10 ∧ codesOf a.table.slots = [] ∧ a.regulation.settle = false ∧
      w.correlator.lanes = [some 9, none, none, none] ∧
      a.correlator.lanes = [none, none, none, none] := by decide +kernel

/-- A read past an empty slot and two failing entries, the first of them TRACKED, to a good one; and one
past the last slot. -/
theorem witness_TableReplyRuns_removal :
    let x := { entry 9 .tracked (some 1) 300 0 with parityGood := false }
    let y := entry 10 .candidate none 70 0
    let z := entry 11 .parked none 80 3
    let s (slots : List (Option Entry)) :=
      let s := (station .regulating).setTable { slots := slots, errors := 0 }
      let s := (s.setFrames { s.frames with watches := [some 40, some 41, none, none] }).setService
        { s.service with reply := some { lines := [], cursor := some { slot := 0, sent := 0 } } }
      drive (s.setCorrelator { s.correlator with lanes := [some 9, none, none, none] })
    let a := s [none, some x, some y, some z, none, none, none, none]
    let b := s [none, some x, none, none, none, none, none, none]
    let t := after (.tableLineRead [2]) a
    a.held = false ∧ a.pins = pinsNow a ∧ a.table.slots.length = 8 ∧
      a.table.slots[3]? = some (some z) ∧ z.parityGood = true ∧ x.parityGood = false ∧
      b.held = false ∧ b.pins = pinsNow b ∧
      t.table.slots = [none, none, none, some z, none, none, none, none] ∧ t.table.errors = 2 ∧
      t.correlator.lanes = [none, none, none, none] ∧
      t.frames.watches = [none, some 41, none, none] ∧
      t.service.reply = some { lines := [entryLine 3 z], cursor := some { slot := 4, sent := 1 } } ∧
      (after (.tableLineRead []) b).service.reply =
        some { lines := ["E 0 1".toList], cursor := none } := by decide +kernel

/-- Steps of -255 and 255, and records over, pending 31 and running 512. -/
theorem witness_FrameHeardAsBuilt :
    (-255 : Int) ≤ -255 ∧ (255 : Int) ≤ 255 ∧ surveyInRange endedSurvey = true ∧
      surveyInRange (running .interrupt 512) = true ∧
      surveyInRange { running .freeze 31 with phase := .pending } = true ∧ 31 < 32 := by decide

/-- A sound station with a command waiting. -/
def waiting : State := { station .regulating with pending := [.hold] }

theorem witness_StepKeepsStation :
    StationOk waiting ∧ step waiting = .next (after .hold (station .regulating)) := by
  refine ⟨?_, rfl⟩
  unfold StationOk; decide

theorem witness_StepKeepsTimerAndCapture :
    TimerOk waiting ∧ CaptureOk waiting ∧
      step waiting = .next (after .hold (station .regulating)) := by
  refine ⟨⟨by decide, by decide, by decide, by decide, ?_, by decide⟩, ?_, rfl⟩
  · intro c h
    obtain rfl : settings = c := Option.some.inj h
    decide
  · unfold CaptureOk; decide

theorem witness_StepKeepsTable :
    let s := waiting.setTable { waiting.table with slots := contest }
    LoadOk s ∧ TableOk s ∧ step s = .next (after .hold ({ s with pending := [] })) := by
  refine ⟨?_, ?_, rfl⟩
  · unfold LoadOk; decide
  · show SlotsOk 5 contest
    unfold SlotsOk EntryOk; decide

theorem witness_StepKeepsCurrent :
    CurrentOk waiting ∧ step waiting = .next (after .hold (station .regulating)) := by
  refine ⟨⟨by decide, by decide, 1240, rfl, ?_⟩, rfl⟩
  exact ⟨by decide, by decide, by decide, by decide, by decide⟩

/-- The keying span's last unit and the tail's first; a station in its range, and one held at K by a
DEPOLARIZE survey. -/
theorem witness_DemandStaysBounded :
    (∀ phase ∈ [19199, 19200],
      StationOk (at_ phase (station .regulating)) ∧
        (at_ phase (station .regulating)).timer.window ≠ .opened ∧
        (at_ phase (station .regulating)).regulation.setCurrent = some 1240) ∧
      StationOk (station .regulating) ∧ CurrentOk (station .regulating) ∧
      CurrentOk
        (((station .survey).setSurvey (running .depolarize 256)).setRegulation
          { State.reset.regulation with setCurrent := some 20, resume := some 2000 }) := by
  refine ⟨?_, ?_, ⟨by decide, by decide, 1240, rfl, ?_⟩, ⟨by decide, by decide, 20, rfl, ?_⟩⟩
  · unfold StationOk; decide
  · unfold StationOk; decide
  · exact ⟨by decide, by decide, by decide, by decide, by decide⟩
  · exact ⟨by decide, by decide, by decide, by decide, by decide⟩

end Sys2Proof.Tests
end

section
/-! PROOFS. The parity codes and the chip orders (R8, R9). A chip is a character of XOR in the code and in
the index; the rest follows from that and from XOR with a fixed index permuting the 64 indices. -/

namespace Sys2Proof.Machine

/-! ### Chips (R8) -/

theorem foldl_xor_eq_countP_odd (f : Nat → Bool) (ks : List Nat) (acc : Bool) :
    ks.foldl (fun acc k => acc ^^ f k) acc = (acc ^^ decide (ks.countP f % 2 = 1)) := by
  induction ks generalizing acc with
  | nil => simp
  | cons k ks ih =>
    rw [List.foldl_cons, ih, List.countP_cons, Bool.xor_assoc]
    congr 1
    cases f k
    · simp
    · rcases Nat.mod_two_eq_zero_or_one (ks.countP f) with h | h <;>
        simp [Nat.add_mod, h]

theorem oddOnes_eq_countP_odd (x : Nat) :
    oddOnes x = decide ((List.range 6).countP (fun k => x.testBit k) % 2 = 1) := by
  simp [oddOnes, foldl_xor_eq_countP_odd]

theorem oddOnes_xor (x y : Nat) : oddOnes (x ^^^ y) = (oddOnes x ^^ oddOnes y) := by
  unfold oddOnes
  rw [← List.foldl_hom₂ (List.range 6) (fun a b : Bool => a ^^ b) _ _
    (fun acc k => acc ^^ (x ^^^ y).testBit k) false false]
  · rfl
  · intro a b k
    simp only [Nat.testBit_xor, Bool.xor_assoc, Bool.xor_left_comm]

theorem oddOnes_two_pow {k : Nat} (hk : k < 6) : oddOnes (2 ^ k) = true := by
  revert k
  decide

theorem chip_eq_sign_of_countP (w i : Nat) :
    chip w i =
      if ((List.range 6).countP fun k => (i &&& w).testBit k) % 2 = 0 then 1 else -1 := by
  rw [chip, oddOnes_eq_countP_odd]
  rcases Nat.mod_two_eq_zero_or_one ((List.range 6).countP fun k => (i &&& w).testBit k)
    with h | h <;> simp only [h] <;> rfl

theorem chip_eq_one_or_neg_one (w i : Nat) : chip w i = 1 ∨ chip w i = -1 := by
  unfold chip
  split <;> simp

@[simp] theorem chip_zero (i : Nat) : chip 0 i = 1 := by
  simp [chip, oddOnes]

theorem chip_comm (w i : Nat) : chip w i = chip i w := by
  rw [chip, chip, Nat.and_comm]

/-- The chip is multiplicative in the index, as R9 uses it. -/
theorem chip_xor_index (w i j : Nat) : chip w (i ^^^ j) = chip w i * chip w j := by
  simp only [chip, Nat.and_xor_distrib_right, oddOnes_xor]
  cases oddOnes (i &&& w) <;> cases oddOnes (j &&& w) <;> rfl

/-- The chip-by-chip product of two codes is the code of their XOR (R8). -/
theorem chip_xor_code (w v i : Nat) : chip (w ^^^ v) i = chip w i * chip v i := by
  rw [chip_comm, chip_xor_index, chip_comm i w, chip_comm i v]

/-- A code other than 0 has a one bit, and its chip is -1 at the index of that bit alone. -/
theorem exists_chip_eq_neg_one {w : Nat} (hpos : 1 ≤ w) (hw : w < 64) :
    ∃ j < 64, chip w j = -1 := by
  obtain ⟨k, hbit⟩ := Nat.exists_testBit_of_ne_zero (Nat.one_le_iff_ne_zero.mp hpos)
  have hk : k < 6 :=
    (Nat.pow_lt_pow_iff_right (by decide)).mp ((Nat.ge_two_pow_of_testBit hbit).trans_lt hw)
  have hand : 2 ^ k &&& w = 2 ^ k := by
    rw [Nat.two_pow_and, hbit, Bool.toNat_true, Nat.mul_one]
  refine ⟨2 ^ k, Nat.pow_lt_pow_right (by decide) hk, ?_⟩
  simp [chip, hand, oddOnes_two_pow hk]

/-! ### Sums over the 64 indices -/

theorem xor_lt_64 {i j : Nat} (hi : i < 64) (hj : j < 64) : i ^^^ j < 64 :=
  Nat.xor_lt_two_pow (n := 6) hi hj

theorem map_xor_perm_range {j : Nat} (hj : j < 64) :
    ((List.range 64).map (· ^^^ j)).Perm (List.range 64) := by
  have hnodup : ((List.range 64).map (· ^^^ j)).Nodup :=
    List.nodup_range.map Nat.xor_left_injective
  have hsub : (List.range 64).map (· ^^^ j) ⊆ List.range 64 := by
    intro x hx
    obtain ⟨i, hi, rfl⟩ := List.mem_map.mp hx
    exact List.mem_range.mpr (xor_lt_64 (List.mem_range.mp hi) hj)
  exact (hnodup.subperm hsub).perm_of_length_le (by simp)

/-- XOR with an index of chip -1 exchanges the places of the two signs. -/
theorem countP_chip_one_eq_countP_chip_neg_one {w : Nat} (hpos : 1 ≤ w) (hw : w < 64) :
    ((List.range 64).countP fun i => chip w i = 1) =
      (List.range 64).countP fun i => chip w i = -1 := by
  obtain ⟨j, hj, hneg⟩ := exists_chip_eq_neg_one hpos hw
  rw [← (map_xor_perm_range hj).countP_eq, List.countP_map]
  congr 1
  funext i
  simp [chip_xor_index, hneg, neg_eq_iff_eq_neg]

theorem countP_chip_one_add_countP_chip_neg_one (w : Nat) :
    ((List.range 64).countP fun i => chip w i = 1) +
      ((List.range 64).countP fun i => chip w i = -1) = 64 := by
  have hcompl : ∀ i, (!decide (chip w i = 1)) = decide (chip w i = -1) := by
    intro i
    rcases chip_eq_one_or_neg_one w i with h | h <;> simp [h]
  have hlen :=
    List.length_eq_countP_add_countP (fun i => decide (chip w i = 1)) (l := List.range 64)
  simpa [hcompl] using hlen.symm

theorem chip_balanced {w : Nat} (hpos : 1 ≤ w) (hw : w < 64) :
    ((List.range 64).countP fun i => chip w i = 1) = 32 ∧
      ((List.range 64).countP fun i => chip w i = -1) = 32 := by
  have heq := countP_chip_one_eq_countP_chip_neg_one hpos hw
  have hsum := countP_chip_one_add_countP_chip_neg_one w
  omega

theorem sum_chip_eq_countP_sub (w : Nat) (is : List Nat) :
    (is.map (chip w)).sum =
      (is.countP fun i => chip w i = 1) - (is.countP fun i => chip w i = -1 : Nat) := by
  induction is with
  | nil => rfl
  | cons i is ih =>
    rw [List.map_cons, List.sum_cons, ih, List.countP_cons, List.countP_cons]
    rcases chip_eq_one_or_neg_one w i with h | h <;> simp [h] <;> omega

theorem sum_chip_eq_zero {w : Nat} (hpos : 1 ≤ w) (hw : w < 64) :
    ((List.range 64).map (chip w)).sum = 0 := by
  obtain ⟨hone, hneg⟩ := chip_balanced hpos hw
  rw [sum_chip_eq_countP_sub, hone, hneg, sub_self]

/-! ### Chip orders (R9) -/

theorem scrambleOf_eq_of_mem_table {n k : Nat}
    (h : (n, k) ∈ [(0, 0), (1, 45), (2, 27), (3, 54), (4, 11), (5, 38), (6, 60), (7, 17)]) :
    scrambleOf n = k := by
  have htable : ∀ row ∈
      [(0, 0), (1, 45), (2, 27), (3, 54), (4, 11), (5, 38), (6, 60), (7, 17)],
      scrambleOf row.1 = row.2 := by decide
  exact htable _ h

theorem scrambleOf_mod_lt (position : Nat) : scrambleOf (position % 8) < 64 := by
  have hrows : ∀ n < 8, scrambleOf n < 64 := by decide
  exact hrows _ (Nat.mod_lt _ (by decide))

@[simp] theorem chipIndex_sequential (position p : Nat) :
    chipIndex .sequential position p = p := rfl

theorem chipIndex_scrambled (position p : Nat) :
    chipIndex .scrambled position p = p ^^^ scrambleOf (position % 8) := rfl

theorem map_chipIndex_perm_range (order : ChipOrder) (position : Nat) :
    ((List.range 64).map (chipIndex order position)).Perm (List.range 64) := by
  cases order with
  | sequential =>
    have hid : chipIndex .sequential position = id := rfl
    rw [hid, List.map_id]
  | scrambled => exact map_xor_perm_range (scrambleOf_mod_lt position)

/-! ### Correlation sums (R36) -/

/-- SCRAMBLED keys a code whole or inverted, so its correlation is that of SEQUENTIAL up to the sign. -/
theorem corrSum_scrambled (position w : Nat) (values : List Int) :
    corrSum .scrambled position w values =
      chip w (scrambleOf (position % 8)) * corrSum .sequential position w values := by
  unfold corrSum
  rw [← List.sum_map_mul_left]
  congr 2
  funext ⟨v, p⟩
  simp only [chipIndex_scrambled, chipIndex_sequential, chip_xor_index]
  ring

theorem corrSum_map_range (order : ChipOrder) (position w n : Nat) (f : Nat → Int) :
    corrSum order position w ((List.range n).map f) =
      ((List.range n).map fun p => chip w (chipIndex order position p) * f p).sum := by
  have hzip : (List.range n).zipIdx = (List.range n).map fun p => (p, p) := by
    apply List.ext_getElem <;> simp
  simp [corrSum, List.zipIdx_map, hzip, Function.comp_def]

/-- Distinct codes correlate to 0 in every cycle; code 0, which is constant, is one of them. -/
theorem corrSum_chip_eq_zero (order : ChipOrder) (position : Nat) {w v : Nat}
    (hw : w < 64) (hv : v < 64) (hne : w ≠ v) (x : Int) :
    corrSum order position w
      ((List.range 64).map fun p => x * chip v (chipIndex order position p)) = 0 := by
  have hpos : 1 ≤ w ^^^ v := Nat.one_le_iff_ne_zero.mpr (mt Nat.xor_eq_zero_iff.mp hne)
  calc corrSum order position w
        ((List.range 64).map fun p => x * chip v (chipIndex order position p))
      = ((List.range 64).map fun p => x * chip (w ^^^ v) (chipIndex order position p)).sum := by
        rw [corrSum_map_range]
        congr 2
        funext p
        rw [chip_xor_code]
        ring
    _ = x * (((List.range 64).map (chipIndex order position)).map (chip (w ^^^ v))).sum := by
        rw [List.sum_map_mul_left, List.map_map, Function.comp_def]
    _ = x * ((List.range 64).map (chip (w ^^^ v))).sum := by
        rw [((map_chipIndex_perm_range order position).map (chip (w ^^^ v))).sum_eq]
    _ = 0 := by rw [sum_chip_eq_zero hpos (xor_lt_64 hw hv), mul_zero]

theorem corrSum_replicate_eq_zero (order : ChipOrder) (position : Nat) {w : Nat}
    (hpos : 1 ≤ w) (hw : w < 64) (x : Int) :
    corrSum order position w (List.replicate 64 x) = 0 := by
  have h := corrSum_chip_eq_zero order position hw (v := 0) (by decide) (by omega) x
  simpa using h

end Sys2Proof.Machine

namespace Sys2Proof.Proofs
open Sys2Proof.Machine

/-- Settles O23: a chip is multiplicative under XOR in the code and in the index, and XOR with a fixed
index permutes the 64 indices. -/
theorem codesAreOrthogonal : Obligations.CodesAreOrthogonal := by
  unfold Obligations.CodesAreOrthogonal
  refine ⟨fun w _ i _ => chip_eq_sign_of_countP w i, fun w hpos hw => chip_balanced hpos hw,
    fun w _ v _ i _ => (chip_xor_code w v i).symm, ?orders,
    fun order position w hpos hw x => corrSum_replicate_eq_zero order position hpos hw x,
    fun order position w v _ hw _ hv hne x => corrSum_chip_eq_zero order position hw hv hne x⟩
  case orders =>
    intro position p
    refine ⟨chipIndex_sequential position p, ?_⟩
    rintro n k rfl hrow
    obtain rfl := scrambleOf_eq_of_mem_table hrow
    exact ⟨chipIndex_scrambled position p, map_chipIndex_perm_range .scrambled position,
      fun _ w _ => chip_xor_index w p _, fun w _ values _ => corrSum_scrambled position w values⟩

end Sys2Proof.Proofs
end

section
/-! PROOFS. The check register (R95): each step shifts the register, and a place equal to the top place only
shifts. A frame's own check is the register itself, top place first, so it shifts the register out to 0. -/

namespace Sys2Proof.Machine

/-! ### Places of a number (R179) -/

theorem placesOf_succ (width n : Nat) :
    placesOf (width + 1) n = n.testBit width :: placesOf width n := by
  simp [placesOf, List.range_succ]

@[simp] theorem length_placesOf (width n : Nat) : (placesOf width n).length = width := by
  simp [placesOf]

theorem placesOf_four (n : Nat) :
    placesOf 4 n = [n.testBit 3, n.testBit 2, n.testBit 1, n.testBit 0] := rfl

/-! ### The check register (R95) -/

@[simp] theorem checkOf_nil : checkOf [] = 0 := rfl

theorem checkOf_append (places more : List Bool) :
    checkOf (places ++ more) = more.foldl checkStep (checkOf places) :=
  List.foldl_append

theorem le_eq_testBit_three {r : Nat} (hr : r < 16) : decide (8 ≤ r) = r.testBit 3 := by
  rw [Nat.testBit_eq_decide_div_mod_eq, decide_eq_decide]
  omega

theorem checkStep_of_lt {r : Nat} (hr : r < 16) (b : Bool) :
    checkStep r b = if (b ^^ r.testBit 3) then (2 * r % 16) ^^^ 3 else 2 * r % 16 := by
  rw [← le_eq_testBit_three hr]
  rfl

/-- The top place combines with the register's own to 0, so the step only shifts. -/
theorem checkStep_top {r : Nat} (hr : r < 16) : checkStep r (r.testBit 3) = 2 * r % 16 := by
  simp [checkStep_of_lt hr]

theorem checkStep_lt (r : Nat) (b : Bool) : checkStep r b < 16 := by
  have hshift : 2 * r % 16 < 16 := Nat.mod_lt _ (by decide)
  unfold checkStep
  split
  · exact Nat.xor_lt_two_pow (n := 4) hshift (by decide)
  · exact hshift

theorem checkOf_lt (places : List Bool) : checkOf places < 16 := by
  induction places using List.reverseRecOn with
  | nil => decide
  | append_singleton places b => exact checkOf_append places [b] ▸ checkStep_lt _ b

/-- With `n` places of `r` still to come, the register holds them at its top and 0 below. -/
theorem foldl_checkStep_placesOf (r : Nat) {n : Nat} (hn : n ≤ 4) :
    (placesOf n r).foldl checkStep (2 ^ (4 - n) * r % 16) = 0 := by
  induction n with
  | zero => simp [placesOf]
  | succ n ih =>
    have htop : r.testBit n = (2 ^ (3 - n) * r % 16).testBit 3 := by
      rw [show 16 = 2 ^ 4 from rfl, Nat.testBit_mod_two_pow, Nat.testBit_two_pow_mul]
      simp [Nat.sub_sub_self (show n ≤ 3 by omega)]
    have hshift : checkStep (2 ^ (3 - n) * r % 16) (r.testBit n) = 2 ^ (4 - n) * r % 16 := by
      rw [htop, checkStep_top (Nat.mod_lt _ (by decide)), Nat.mul_mod_mod, ← mul_assoc,
        ← pow_succ', show 3 - n + 1 = 4 - n by omega]
    rw [placesOf_succ, List.foldl_cons, show 4 - (n + 1) = 3 - n by omega,
      hshift, ih (by omega)]

theorem checkOf_append_check (places : List Bool) :
    checkOf (places ++ placesOf 4 (checkOf places)) = 0 := by
  have h := foldl_checkStep_placesOf (checkOf places) (n := 4) le_rfl
  rwa [Nat.sub_self, pow_zero, one_mul, Nat.mod_eq_of_lt (checkOf_lt places),
    ← checkOf_append] at h

/-! ### The built frame (R94, R180) -/

@[simp] theorem length_surveyPlaces (v : Survey) : (surveyPlaces v).length = 12 := by
  unfold surveyPlaces
  cases v.phaseNow <;> simp

@[simp] theorem length_framePlaces (x : Condition) (step : Int) (v : Survey)
    (limit health : Bool) : (framePlaces x step v limit health).length = 28 := by
  simp [framePlaces, stepPlaces]

theorem take_buildFrame (x : Condition) (step : Int) (v : Survey) (limit health : Bool) :
    (buildFrame x step v limit health).take 28 = framePlaces x step v limit health :=
  List.take_left' (length_framePlaces x step v limit health)

theorem drop_buildFrame (x : Condition) (step : Int) (v : Survey) (limit health : Bool) :
    (buildFrame x step v limit health).drop 28 =
      placesOf 4 (checkOf (framePlaces x step v limit health)) :=
  List.drop_left' (length_framePlaces x step v limit health)

@[simp] theorem length_buildFrame (x : Condition) (step : Int) (v : Survey)
    (limit health : Bool) : (buildFrame x step v limit health).length = 32 := by
  simp [buildFrame]

theorem checkOf_buildFrame (x : Condition) (step : Int) (v : Survey) (limit health : Bool) :
    checkOf (buildFrame x step v limit health) = 0 :=
  checkOf_append_check (framePlaces x step v limit health)

end Sys2Proof.Machine

namespace Sys2Proof.Proofs
open Sys2Proof.Machine

/-- Settles O53: the four check places are the register's own, so each only shifts it, and four shifts empty
it. -/
theorem checkRegisterEndsZero : Obligations.CheckRegisterEndsZero := by
  unfold Obligations.CheckRegisterEndsZero
  refine ⟨checkOf_nil, fun places b => checkOf_append places [b],
    fun r hr b => checkStep_of_lt hr b, ?frame⟩
  case frame =>
    rintro x step v limit health frame k rfl rfl
    rw [take_buildFrame]
    exact ⟨length_buildFrame x step v limit health, checkOf_lt _,
      (drop_buildFrame x step v limit health).trans (placesOf_four _),
      checkOf_buildFrame x step v limit health⟩

end Sys2Proof.Proofs
end

section
/-! PROOFS. The condition by the facts (R152): what the derivation answers once a load has left the station in
ACQUIRING, line by line, and what it answers before that. -/

namespace Sys2Proof.Machine

/-- The derivation after an accepted load is the table of R152, read from its first line down. -/
theorem conditionOf_loaded (u : Supervisor) :
    conditionOf true u =
      if u.faultCause.isSome = true then .fault
      else if u.brownout = true then .brownout
      else if u.mains = false then .dark
      else if u.working = false then .acquiring
      else if u.surveyRunning = true then .survey
      else if u.hold = true ∨ u.warn = true then .holding
      else .regulating := by
  simp only [conditionOf, Bool.not_true, Bool.false_eq_true, if_false, Bool.not_eq_true',
    Bool.or_eq_true]

/-- Before an accepted load no other fact counts while no fault cause stands (R152, R166). -/
theorem conditionOf_unloaded {u : Supervisor} (hfault : u.faultCause = none) :
    conditionOf false u = .starting := by
  simp [conditionOf, hfault]

end Sys2Proof.Machine

namespace Sys2Proof.Proofs
open Sys2Proof.Machine Sys2Proof.Safety

/-- Settles O41: the condition held is the derived one, which is the table once a configuration stands and
STARTING before. -/
theorem conditionFollowsFacts : Obligations.ConditionFollowsFacts := by
  unfold Obligations.ConditionFollowsFacts
  intro s hs
  obtain ⟨hcondition, -, -⟩ := hs
  rw [hcondition]
  constructor
  case left =>
    intro hloaded
    rw [hloaded]
    exact conditionOf_loaded s.supervisor
  case right =>
    intro hnone hfault
    rw [hnone]
    exact conditionOf_unloaded hfault

end Sys2Proof.Proofs
end

section
/-! PROOFS. The operations over the whole state, once more: what the laws of the state leave unsaid of the shared
operations, and what each command's meaning makes of the state, in the order of their definitions. -/

namespace Sys2Proof.Machine

/-! ### Changes of condition -/

/-- The window after a change of condition: cut short where it was open and the output goes (R6). -/
theorem setCondition_timer_eq (x : Condition) (s : State) :
    (setCondition x s).timer =
      { s.timer with
        window :=
          if x ≠ s.supervisor.condition ∧ s.timer.window = .opened ∧ x.output = false then .cutShort
          else s.timer.window } := by
  unfold setCondition
  split <;> rename_i h
  · simp [h]
  · by_cases hw : s.timer.window = .opened <;> cases x.output <;> simp [hw, h]

theorem setCondition_keying (x : Condition) (s : State) :
    (setCondition x s).keying =
      { s.keying with
        keyed := if x = s.supervisor.condition then s.keying.keyed else keyedAfter x s } := by
  unfold setCondition
  split <;> simp [*]

theorem setCondition_correlator (x : Condition) (s : State) :
    (setCondition x s).correlator =
      { s.correlator with
        darkSeen := s.correlator.darkSeen || decide (x ≠ s.supervisor.condition ∧ x = .dark) } := by
  unfold setCondition
  split <;> simp [*]

theorem setCondition_front (x : Condition) (s : State) :
    (setCondition x s).front =
      if x = s.supervisor.condition then s.front
      else
        { s.front with
          unbroken := s.front.unbroken && x.samples
          whole :=
            x.samples &&
              (if s.supervisor.condition.samples then s.front.whole
               else s.timer.phase % 20 = 0)
          offSum :=
            if s.timer.window = .opened ∧ x.output = false then 0 else s.front.offSum
          offCount :=
            if s.timer.window = .opened ∧ x.output = false then 0 else s.front.offCount } := by
  unfold setCondition
  split
  · rfl
  · by_cases hw : s.timer.window = .opened <;> cases x.output <;> simp [hw]

/-- What a change of condition never touches of the front end. -/
@[simp] theorem setCondition_front_kept (x : Condition) (s : State) :
    (setCondition x s).front.lastMeanS = s.front.lastMeanS ∧
      (setCondition x s).front.supplySum = s.front.supplySum ∧
      (setCondition x s).front.supplyCount = s.front.supplyCount := by
  unfold setCondition
  split <;> simp

/-- A derivation that finds the condition held changes nothing. -/
theorem derive_of_agrees {s : State}
    (h : s.supervisor.condition = conditionOf s.config.isSome s.supervisor) : derive s = s := by
  simp [derive, setCondition, ← h]

@[simp] theorem derive_fields (s : State) :
    (derive s).held = s.held ∧ (derive s).load = s.load ∧ (derive s).lines = s.lines ∧
      (derive s).bus = s.bus ∧ (derive s).wire = s.wire ∧ (derive s).config = s.config ∧
      (derive s).table = s.table ∧ (derive s).frames = s.frames ∧
      (derive s).agreement = s.agreement ∧ (derive s).regulation = s.regulation ∧
      (derive s).survey = s.survey ∧ (derive s).capture = s.capture ∧
      (derive s).service = s.service ∧ (derive s).pins = s.pins ∧ (derive s).edge = s.edge ∧
      (derive s).freeCount = s.freeCount ∧ (derive s).pending = s.pending :=
  setCondition_fields _ s

@[simp] theorem derive_condition (s : State) :
    (derive s).supervisor.condition = conditionOf s.config.isSome s.supervisor :=
  setCondition_condition _ s

/-- The supervisor's facts stand through a derivation; only the condition and the solitary count follow. -/
@[simp] theorem derive_facts (s : State) :
    (derive s).supervisor.faultCause = s.supervisor.faultCause ∧
      (derive s).supervisor.working = s.supervisor.working ∧
      (derive s).supervisor.hold = s.supervisor.hold ∧
      (derive s).supervisor.pendingHold = s.supervisor.pendingHold ∧
      (derive s).supervisor.mains = s.supervisor.mains ∧
      (derive s).supervisor.warn = s.supervisor.warn ∧
      (derive s).supervisor.brownout = s.supervisor.brownout ∧
      (derive s).supervisor.lowRun = s.supervisor.lowRun ∧
      (derive s).supervisor.highRun = s.supervisor.highRun ∧
      (derive s).supervisor.lastAligned = s.supervisor.lastAligned ∧
      (derive s).supervisor.surveyRunning = s.supervisor.surveyRunning ∧
      (derive s).supervisor.alarms = s.supervisor.alarms := by
  simp [derive, setCondition_supervisor]

theorem derive_supervisor (s : State) :
    (derive s).supervisor =
      { s.supervisor with
        condition := conditionOf s.config.isSome s.supervisor
        solitary :=
          if conditionOf s.config.isSome s.supervisor ≠ s.supervisor.condition ∧
              conditionOf s.config.isSome s.supervisor = .acquiring then 0
          else s.supervisor.solitary } :=
  setCondition_supervisor _ s

@[simp] theorem derive_timer_kept (s : State) :
    (derive s).timer.phase = s.timer.phase ∧ (derive s).timer.length = s.timer.length ∧
      (derive s).timer.position = s.timer.position :=
  setCondition_timer _ s

@[simp] theorem derive_front_kept (s : State) :
    (derive s).front.lastMeanS = s.front.lastMeanS ∧
      (derive s).front.supplySum = s.front.supplySum ∧
      (derive s).front.supplyCount = s.front.supplyCount :=
  setCondition_front_kept _ s

/-! ### Shared operations -/

@[simp] theorem takeWarn_fields (meanS : Option Nat) (s : State) :
    (takeWarn meanS s).held = s.held ∧ (takeWarn meanS s).load = s.load ∧
      (takeWarn meanS s).lines = s.lines ∧ (takeWarn meanS s).bus = s.bus ∧
      (takeWarn meanS s).wire = s.wire ∧ (takeWarn meanS s).config = s.config ∧
      (takeWarn meanS s).timer = s.timer ∧ (takeWarn meanS s).keying = s.keying ∧
      (takeWarn meanS s).front = s.front ∧ (takeWarn meanS s).correlator = s.correlator ∧
      (takeWarn meanS s).table = s.table ∧ (takeWarn meanS s).frames = s.frames ∧
      (takeWarn meanS s).agreement = s.agreement ∧ (takeWarn meanS s).regulation = s.regulation ∧
      (takeWarn meanS s).survey = s.survey ∧ (takeWarn meanS s).capture = s.capture ∧
      (takeWarn meanS s).service = s.service ∧ (takeWarn meanS s).pins = s.pins ∧
      (takeWarn meanS s).edge = s.edge ∧ (takeWarn meanS s).freeCount = s.freeCount ∧
      (takeWarn meanS s).pending = s.pending := by
  obtain ⟨warn, supply, h⟩ := takeWarn_eq meanS s
  simp [h]

/-- The supervisor's facts but the warn flag and the SUPPLY latch stand through a warn test. -/
@[simp] theorem takeWarn_facts (meanS : Option Nat) (s : State) :
    (takeWarn meanS s).supervisor.condition = s.supervisor.condition ∧
      (takeWarn meanS s).supervisor.faultCause = s.supervisor.faultCause ∧
      (takeWarn meanS s).supervisor.working = s.supervisor.working ∧
      (takeWarn meanS s).supervisor.hold = s.supervisor.hold ∧
      (takeWarn meanS s).supervisor.pendingHold = s.supervisor.pendingHold ∧
      (takeWarn meanS s).supervisor.mains = s.supervisor.mains ∧
      (takeWarn meanS s).supervisor.brownout = s.supervisor.brownout ∧
      (takeWarn meanS s).supervisor.lowRun = s.supervisor.lowRun ∧
      (takeWarn meanS s).supervisor.highRun = s.supervisor.highRun ∧
      (takeWarn meanS s).supervisor.solitary = s.supervisor.solitary ∧
      (takeWarn meanS s).supervisor.lastAligned = s.supervisor.lastAligned ∧
      (takeWarn meanS s).supervisor.surveyRunning = s.supervisor.surveyRunning ∧
      (takeWarn meanS s).supervisor.alarms.floor = s.supervisor.alarms.floor ∧
      (takeWarn meanS s).supervisor.alarms.ilimit = s.supervisor.alarms.ilimit ∧
      (takeWarn meanS s).supervisor.alarms.vlimit = s.supervisor.alarms.vlimit ∧
      (takeWarn meanS s).supervisor.alarms.noself = s.supervisor.alarms.noself ∧
      (takeWarn meanS s).supervisor.alarms.stage = s.supervisor.alarms.stage ∧
      (takeWarn meanS s).supervisor.alarms.table = s.supervisor.alarms.table ∧
      (takeWarn meanS s).supervisor.alarms.capdrop = s.supervisor.alarms.capdrop := by
  obtain ⟨warn, supply, h⟩ := takeWarn_eq meanS s
  simp [h]

@[simp] theorem upsetEntries_fields (struck : List Nat) (s : State) :
    (upsetEntries struck s).held = s.held ∧ (upsetEntries struck s).load = s.load ∧
      (upsetEntries struck s).lines = s.lines ∧ (upsetEntries struck s).bus = s.bus ∧
      (upsetEntries struck s).wire = s.wire ∧ (upsetEntries struck s).config = s.config ∧
      (upsetEntries struck s).timer = s.timer ∧ (upsetEntries struck s).keying = s.keying ∧
      (upsetEntries struck s).front = s.front ∧
      (upsetEntries struck s).correlator = s.correlator ∧
      (upsetEntries struck s).frames = s.frames ∧
      (upsetEntries struck s).agreement = s.agreement ∧
      (upsetEntries struck s).regulation = s.regulation ∧
      (upsetEntries struck s).survey = s.survey ∧ (upsetEntries struck s).capture = s.capture ∧
      (upsetEntries struck s).supervisor = s.supervisor ∧
      (upsetEntries struck s).service = s.service ∧ (upsetEntries struck s).pins = s.pins ∧
      (upsetEntries struck s).edge = s.edge ∧ (upsetEntries struck s).freeCount = s.freeCount ∧
      (upsetEntries struck s).pending = s.pending ∧
      (upsetEntries struck s).table.errors = s.table.errors := by
  simp [upsetEntries]

/-- A read of the entries touches the lanes alone of the correlator, the watches alone of the frame unit and the
TABLE latch alone of the supervisor (R71). -/
theorem checkParity_eq (read : Nat → Entry → Bool) (s : State) :
    ∃ table lanes watches latched, checkParity read s =
      { s with
        table := table
        correlator := { s.correlator with lanes := lanes }
        frames := { s.frames with watches := watches }
        supervisor :=
          { s.supervisor with alarms := { s.supervisor.alarms with table := latched } } } := by
  unfold checkParity
  split
  · exact ⟨s.table, s.correlator.lanes, s.frames.watches, s.supervisor.alarms.table, rfl⟩
  · exact ⟨_, _, _, true, rfl⟩

@[simp] theorem checkParity_kept (read : Nat → Entry → Bool) (s : State) :
    (checkParity read s).supervisor.condition = s.supervisor.condition ∧
      (checkParity read s).supervisor.faultCause = s.supervisor.faultCause ∧
      (checkParity read s).supervisor.working = s.supervisor.working ∧
      (checkParity read s).supervisor.hold = s.supervisor.hold ∧
      (checkParity read s).supervisor.pendingHold = s.supervisor.pendingHold ∧
      (checkParity read s).supervisor.mains = s.supervisor.mains ∧
      (checkParity read s).supervisor.warn = s.supervisor.warn ∧
      (checkParity read s).supervisor.brownout = s.supervisor.brownout ∧
      (checkParity read s).supervisor.lowRun = s.supervisor.lowRun ∧
      (checkParity read s).supervisor.highRun = s.supervisor.highRun ∧
      (checkParity read s).supervisor.solitary = s.supervisor.solitary ∧
      (checkParity read s).supervisor.lastAligned = s.supervisor.lastAligned ∧
      (checkParity read s).supervisor.surveyRunning = s.supervisor.surveyRunning ∧
      (checkParity read s).supervisor.alarms.floor = s.supervisor.alarms.floor ∧
      (checkParity read s).supervisor.alarms.ilimit = s.supervisor.alarms.ilimit ∧
      (checkParity read s).supervisor.alarms.vlimit = s.supervisor.alarms.vlimit ∧
      (checkParity read s).supervisor.alarms.noself = s.supervisor.alarms.noself ∧
      (checkParity read s).supervisor.alarms.stage = s.supervisor.alarms.stage ∧
      (checkParity read s).supervisor.alarms.supply = s.supervisor.alarms.supply ∧
      (checkParity read s).supervisor.alarms.capdrop = s.supervisor.alarms.capdrop ∧
      (checkParity read s).frames.ownFrame = s.frames.ownFrame ∧
      (checkParity read s).frames.cycleCount = s.frames.cycleCount := by
  obtain ⟨table, lanes, watches, latched, h⟩ := checkParity_eq read s
  simp [h]

/-- The lanes alone of the correlator can change at a read of the entries (R71). -/
@[simp] theorem checkParity_correlator_kept (read : Nat → Entry → Bool) (s : State) :
    (checkParity read s).correlator.selfSum = s.correlator.selfSum ∧
      (checkParity read s).correlator.selfCount = s.correlator.selfCount ∧
      (checkParity read s).correlator.gSelf = s.correlator.gSelf ∧
      (checkParity read s).correlator.gSelfValid = s.correlator.gSelfValid ∧
      (checkParity read s).correlator.reversed = s.correlator.reversed ∧
      (checkParity read s).correlator.xpSelf = s.correlator.xpSelf ∧
      (checkParity read s).correlator.residual = s.correlator.residual ∧
      (checkParity read s).correlator.darkSeen = s.correlator.darkSeen ∧
      (checkParity read s).correlator.dwellCode = s.correlator.dwellCode ∧
      (checkParity read s).correlator.dwellSum = s.correlator.dwellSum ∧
      (checkParity read s).correlator.dwellCount = s.correlator.dwellCount ∧
      (checkParity read s).correlator.waiting = s.correlator.waiting ∧
      (checkParity read s).correlator.startCodes = s.correlator.startCodes := by
  obtain ⟨table, lanes, watches, latched, h⟩ := checkParity_eq read s
  simp [h]

end Sys2Proof.Machine
end

section
/-! PROOFS. The slots of the table as a numbered list: what a change of every entry by its slot makes of them, and
what upsets and reads of the entries do, counted slot by slot (R55, R56, R68 to R72, R102). -/

namespace Sys2Proof.Machine

/-! ### The slots, numbered -/

/-- The slots with every entry changed, or removed, by a function of its slot's number and of itself. -/
def mapSlots (f : Nat → Entry → Option Entry) (slots : List (Option Entry)) : List (Option Entry) :=
  slots.zipIdx.map fun (o, k) => o.bind (f k)

@[simp] theorem length_mapSlots (f : Nat → Entry → Option Entry) (slots : List (Option Entry)) :
    (mapSlots f slots).length = slots.length := by
  simp [mapSlots]

@[simp] theorem getElem?_mapSlots (f : Nat → Entry → Option Entry) (slots : List (Option Entry))
    (k : Nat) : (mapSlots f slots)[k]? = slots[k]?.map fun o => o.bind (f k) := by
  simp [mapSlots, Function.comp_def]

theorem getElem?_mapSlots_eq_some {f : Nat → Entry → Option Entry} {slots : List (Option Entry)}
    {k : Nat} {e' : Entry} :
    (mapSlots f slots)[k]? = some (some e') ↔ ∃ e, slots[k]? = some (some e) ∧ f k e = some e' := by
  rw [getElem?_mapSlots]
  rcases slots[k]? with _ | _ | e <;> simp

theorem getD_mapSlots (f : Nat → Entry → Option Entry) (slots : List (Option Entry)) (k : Nat) :
    (mapSlots f slots).getD k none = (slots.getD k none).bind (f k) := by
  rw [List.getD_eq_getElem?_getD, List.getD_eq_getElem?_getD, getElem?_mapSlots]
  rcases slots[k]? with _ | o <;> simp

theorem mapSlots_congr {f g : Nat → Entry → Option Entry} {slots : List (Option Entry)}
    (h : ∀ k e, slots[k]? = some (some e) → f k e = g k e) : mapSlots f slots = mapSlots g slots := by
  apply List.ext_getElem?
  intro k
  rw [getElem?_mapSlots, getElem?_mapSlots]
  rcases hk : slots[k]? with _ | _ | e
  · rfl
  · rfl
  · simp [h k e hk]

theorem mapSlots_eq_self {f : Nat → Entry → Option Entry} {slots : List (Option Entry)}
    (h : ∀ k e, slots[k]? = some (some e) → f k e = some e) : mapSlots f slots = slots := by
  apply List.ext_getElem?
  intro k
  rw [getElem?_mapSlots]
  rcases hk : slots[k]? with _ | _ | e
  · rfl
  · rfl
  · simp [h k e hk]

theorem mapSlots_mapSlots (f g : Nat → Entry → Option Entry) (slots : List (Option Entry)) :
    mapSlots f (mapSlots g slots) = mapSlots (fun k e => (g k e).bind (f k)) slots := by
  apply List.ext_getElem?
  intro k
  simp only [getElem?_mapSlots, Option.map_map]
  rcases slots[k]? with _ | _ | e <;> rfl

theorem mapEntries_eq_mapSlots (f : Entry → Option Entry) (slots : List (Option Entry)) :
    mapEntries f slots = mapSlots (fun _ => f) slots := by
  apply List.ext_getElem?
  intro k
  simp [mapEntries]

@[simp] theorem length_mapEntries (f : Entry → Option Entry) (slots : List (Option Entry)) :
    (mapEntries f slots).length = slots.length := by
  simp [mapEntries]

/-! ### The entries -/

theorem mem_entriesOf {slots : List (Option Entry)} {e : Entry} :
    e ∈ entriesOf slots ↔ some e ∈ slots := by
  simp [entriesOf]

theorem mem_entriesOf_iff_getElem? {slots : List (Option Entry)} {e : Entry} :
    e ∈ entriesOf slots ↔ ∃ k : Nat, slots[k]? = some (some e) := by
  rw [mem_entriesOf, List.mem_iff_getElem?]

theorem mem_entriesOf_of_getElem? {slots : List (Option Entry)} {e : Entry} {k : Nat}
    (h : slots[k]? = some (some e)) : e ∈ entriesOf slots :=
  mem_entriesOf_iff_getElem?.mpr ⟨k, h⟩

theorem mem_entriesOf_mapSlots {f : Nat → Entry → Option Entry} {slots : List (Option Entry)}
    {e' : Entry} :
    e' ∈ entriesOf (mapSlots f slots) ↔ ∃ k e, slots[k]? = some (some e) ∧ f k e = some e' := by
  simp only [mem_entriesOf_iff_getElem?, getElem?_mapSlots_eq_some]

theorem mem_codesOf {slots : List (Option Entry)} {w : Nat} :
    w ∈ codesOf slots ↔ ∃ e ∈ entriesOf slots, e.code = w := by
  simp [codesOf]

@[simp] theorem entriesOf_nil : entriesOf [] = [] := rfl

theorem entriesOf_cons_none (slots : List (Option Entry)) :
    entriesOf (none :: slots) = entriesOf slots := rfl

theorem entriesOf_cons_some (e : Entry) (slots : List (Option Entry)) :
    entriesOf (some e :: slots) = e :: entriesOf slots := rfl

/-- What a function reads of the entries only shrinks where each entry kept reads as it did, or as nothing. -/
theorem filterMap_mapSlots_sublist {α : Type} (φ : Entry → Option α)
    {f : Nat → Entry → Option Entry} (slots : List (Option Entry))
    (h : ∀ k e e', slots[k]? = some (some e) → f k e = some e' → φ e' = φ e ∨ φ e' = none) :
    ((entriesOf (mapSlots f slots)).filterMap φ).Sublist ((entriesOf slots).filterMap φ) := by
  induction slots generalizing f with
  | nil => simp [mapSlots]
  | cons o slots ih =>
    have hcons : mapSlots f (o :: slots) = o.bind (f 0) :: mapSlots (fun k => f (k + 1)) slots := by
      apply List.ext_getElem?
      rintro (_ | k) <;> rw [getElem?_mapSlots] <;> simp
    have htail := ih (f := fun k => f (k + 1)) fun k e e' hk => h (k + 1) e e' (by simpa using hk)
    rw [hcons]
    cases o with
    | none => exact htail
    | some e =>
      rw [Option.bind_some, entriesOf_cons_some, List.filterMap_cons]
      cases hf : f 0 e with
      | none =>
        rw [entriesOf_cons_none]
        cases φ e with
        | none => exact htail
        | some x => exact htail.cons x
      | some e' =>
        rw [entriesOf_cons_some, List.filterMap_cons]
        rcases h 0 e e' rfl hf with heq | hnone
        · rw [heq]
          cases φ e with
          | none => exact htail
          | some x => exact htail.cons_cons x
        · rw [hnone]
          cases φ e with
          | none => exact htail
          | some x => exact htail.cons x

theorem codesOf_mapSlots_sublist {f : Nat → Entry → Option Entry} (slots : List (Option Entry))
    (h : ∀ k e e', slots[k]? = some (some e) → f k e = some e' → e'.code = e.code) :
    (codesOf (mapSlots f slots)).Sublist (codesOf slots) := by
  have hsub := filterMap_mapSlots_sublist (fun e => some e.code) (f := f) slots
    fun k e e' hk hf => .inl (congrArg some (h k e e' hk hf))
  simpa [codesOf, List.filterMap_eq_map'] using hsub

/-! ### The watches (R102) -/

@[simp] theorem getElem?_dropWatches (lanes : List Nat) (watches : List (Option Nat)) (k : Nat) :
    (dropWatches lanes watches)[k]? =
      if k + 1 ∈ lanes then watches[k]?.map fun _ => none else watches[k]? := by
  unfold dropWatches
  rcases hk : watches[k]? with _ | w <;> by_cases h : k + 1 ∈ lanes <;> simp [hk, h]

@[simp] theorem dropWatches_nil (watches : List (Option Nat)) : dropWatches [] watches = watches := by
  apply List.ext_getElem?
  intro k
  simp

theorem dropWatches_dropWatches (lanes more : List Nat) (watches : List (Option Nat)) :
    dropWatches more (dropWatches lanes watches) = dropWatches (lanes ++ more) watches := by
  apply List.ext_getElem?
  intro k
  by_cases h : k + 1 ∈ lanes <;> by_cases h' : k + 1 ∈ more <;>
    simp [h, h', Function.comp_def]

/-- Which lanes' watches are dropped does not depend on the order or on repetition. -/
theorem dropWatches_congr {lanes lanes' : List Nat} (h : ∀ x, x ∈ lanes ↔ x ∈ lanes')
    (watches : List (Option Nat)) : dropWatches lanes watches = dropWatches lanes' watches := by
  apply List.ext_getElem?
  intro k
  simp [h]

@[simp] theorem length_dropWatches (lanes : List Nat) (watches : List (Option Nat)) :
    (dropWatches lanes watches).length = watches.length := by
  simp [dropWatches]

/-! ### Upsets and reads, slot by slot -/

/-- An entry in slot `k` after an upset of some slots (log 6). -/
def strike (struck : List Nat) (k : Nat) (e : Entry) : Entry :=
  if k ∈ struck then { e with parityGood := false } else e

@[simp] theorem strike_fields (struck : List Nat) (k : Nat) (e : Entry) :
    (strike struck k e).code = e.code ∧ (strike struck k e).state = e.state ∧
      (strike struck k e).lane = e.lane ∧ (strike struck k e).g = e.g ∧
      (strike struck k e).gValid = e.gValid ∧ (strike struck k e).frameSum = e.frameSum ∧
      (strike struck k e).frameCount = e.frameCount ∧ (strike struck k e).age = e.age ∧
      (strike struck k e).low = e.low ∧ (strike struck k e).history = e.history ∧
      (strike struck k e).offset = e.offset ∧ (strike struck k e).discarded = e.discarded ∧
      (strike struck k e).record = e.record ∧
      (strike struck k e).parityGood = (e.parityGood && decide (k ∉ struck)) := by
  unfold strike
  split <;> simp [*]

theorem strike_of_notMem {struck : List Nat} {k : Nat} (h : k ∉ struck) (e : Entry) :
    strike struck k e = e := by
  simp [strike, h]

theorem upsetEntries_slots (struck : List Nat) (s : State) :
    (upsetEntries struck s).table.slots =
      mapSlots (fun k e => some (strike struck k e)) s.table.slots := by
  simp only [upsetEntries, State.setTable, mapSlots]
  apply List.map_congr_left
  rintro ⟨o, k⟩ -
  cases o <;> simp [strike]

/-- Whether a read finds the entry of slot `k` failing (R70). -/
def failsRead (read : Nat → Entry → Bool) (k : Nat) (e : Entry) : Bool :=
  !e.parityGood && read k e

/-- The entry of slot `k` as a read leaves it (R71). -/
def passRead (read : Nat → Entry → Bool) (k : Nat) (e : Entry) : Option Entry :=
  if failsRead read k e then none else some e

/-- The slots whose entries a read finds failing, in order. -/
def failingSlots (read : Nat → Entry → Bool) (slots : List (Option Entry)) : List Nat :=
  (List.range slots.length).filter fun k => (slots.getD k none).any (failsRead read k)

theorem mem_failingSlots {read : Nat → Entry → Bool} {slots : List (Option Entry)} {k : Nat} :
    k ∈ failingSlots read slots ↔
      ∃ e, slots[k]? = some (some e) ∧ failsRead read k e = true := by
  rw [failingSlots, List.mem_filter, List.mem_range, List.getD_eq_getElem?_getD]
  constructor
  · rintro ⟨hk, hfails⟩
    rw [List.getElem?_eq_getElem hk] at hfails ⊢
    cases ho : slots[k] with
    | none => simp [ho] at hfails
    | some e => exact ⟨e, rfl, by simpa [ho] using hfails⟩
  · rintro ⟨e, hk, hfails⟩
    exact ⟨(List.getElem?_eq_some_iff.mp hk).1, by simp [hk, hfails]⟩

theorem zipIdx_eq_map_range (slots : List (Option Entry)) :
    slots.zipIdx = (List.range slots.length).map fun k => (slots.getD k none, k) := by
  apply List.ext_getElem
  · simp
  · intro k hk hk'
    have hlt : k < slots.length := by simpa using hk
    simp [List.getD_eq_getElem?_getD, hlt]

/-- The failing entries of a read, with their slots, are those of its failing slots. -/
theorem failingEntries_eq (read : Nat → Entry → Bool) (slots : List (Option Entry)) :
    failingEntries read slots =
      (failingSlots read slots).filterMap fun k => (slots.getD k none).map fun e => (e, k) := by
  unfold failingEntries failingSlots
  rw [zipIdx_eq_map_range, List.filterMap_map, List.filterMap_filter]
  apply List.filterMap_congr
  intro k _
  simp only [Function.comp_apply]
  generalize slots.getD k none = o
  cases o with
  | none => simp
  | some e => by_cases hfails : failsRead read k e = true <;> simp_all [failsRead]

theorem isSome_of_mem_failingSlots {read : Nat → Entry → Bool} {slots : List (Option Entry)}
    {k : Nat} (h : k ∈ failingSlots read slots) : (slots.getD k none).isSome = true := by
  obtain ⟨e, hk, -⟩ := mem_failingSlots.mp h
  simp [List.getD_eq_getElem?_getD, hk]

theorem length_failingEntries (read : Nat → Entry → Bool) (slots : List (Option Entry)) :
    (failingEntries read slots).length = (failingSlots read slots).length := by
  rw [failingEntries_eq, List.length_filterMap_eq_countP, List.countP_eq_length]
  intro k hk
  simpa using isSome_of_mem_failingSlots hk

theorem mem_failingEntries {read : Nat → Entry → Bool} {slots : List (Option Entry)}
    {e : Entry} {k : Nat} :
    (e, k) ∈ failingEntries read slots ↔
      slots[k]? = some (some e) ∧ failsRead read k e = true := by
  simp only [failingEntries, List.mem_filterMap, Prod.exists, List.mem_zipIdx_iff_getElem?]
  constructor
  · rintro ⟨o, j, hj, hbind⟩
    cases o with
    | none => simp at hbind
    | some e' =>
      simp only [Option.bind_some, Option.ite_none_right_eq_some, Option.some.injEq,
        Prod.mk.injEq] at hbind
      obtain ⟨hfails, rfl, rfl⟩ := hbind
      exact ⟨hj, hfails⟩
  · rintro ⟨hk, hfails⟩
    exact ⟨some e, k, hk, by simpa [failsRead] using hfails⟩

theorem checkParity_slots (read : Nat → Entry → Bool) (s : State) :
    (checkParity read s).table.slots = mapSlots (passRead read) s.table.slots := by
  unfold checkParity
  split
  next hnone =>
    refine (mapSlots_eq_self fun k e hk => ?_).symm
    have hpass : ¬failsRead read k e = true := fun hfails => by
      simpa [hnone] using mem_failingEntries.mpr ⟨hk, hfails⟩
    simp [passRead, hpass]
  next => rfl

/-- The table-error count after a number of failures (R71). -/
def errorsAfter (errors failures : Nat) : Nat :=
  if failures = 0 then errors else min 255 (errors + failures)

theorem errorsAfter_errorsAfter (errors n m : Nat) :
    errorsAfter (errorsAfter errors n) m = errorsAfter errors (n + m) := by
  unfold errorsAfter
  split_ifs <;> omega

theorem checkParity_errors (read : Nat → Entry → Bool) (s : State) :
    (checkParity read s).table.errors =
      errorsAfter s.table.errors (failingSlots read s.table.slots).length := by
  rw [← length_failingEntries]
  unfold checkParity errorsAfter
  split
  next hnone => simp [hnone]
  next hsome =>
    rw [if_neg (by simpa using hsome)]

theorem checkParity_latched (read : Nat → Entry → Bool) (s : State) :
    (checkParity read s).supervisor.alarms.table =
      (s.supervisor.alarms.table || decide (failingSlots read s.table.slots ≠ [])) := by
  have hlength := length_failingEntries read s.table.slots
  unfold checkParity
  split
  next hnone =>
    rw [hnone] at hlength
    simp [List.length_eq_zero_iff.mp hlength.symm]
  next hsome =>
    have hne : failingSlots read s.table.slots ≠ [] := fun hnil => by
      rw [hnil] at hlength
      exact hsome (List.length_eq_zero_iff.mp hlength)
    simp [hne]

/-- The lanes of the entries in some slots. -/
def lanesOf (ks : List Nat) (slots : List (Option Entry)) : List Nat :=
  ks.filterMap fun k => (slots.getD k none).bind Entry.lane

theorem checkParity_watches (read : Nat → Entry → Bool) (s : State) :
    (checkParity read s).frames.watches =
      dropWatches (lanesOf (failingSlots read s.table.slots) s.table.slots) s.frames.watches := by
  have hlanes : (failingEntries read s.table.slots).filterMap (fun f => f.1.lane) =
      lanesOf (failingSlots read s.table.slots) s.table.slots := by
    rw [failingEntries_eq, List.filterMap_filterMap, lanesOf]
    apply List.filterMap_congr
    intro k _
    cases s.table.slots.getD k none <;> rfl
  rw [← hlanes]
  unfold checkParity
  split
  next hnone => simp [hnone]
  next => rfl

theorem checkParity_lanes (read : Nat → Entry → Bool) (s : State) :
    (checkParity read s).correlator.lanes =
      s.correlator.lanes.map fun lane =>
        lane.filter fun code =>
          decide (code ∉ (failingEntries read s.table.slots).map fun f => f.1.code) := by
  unfold checkParity
  split
  next hnone =>
    rw [hnone]
    exact (List.map_id' _).symm.trans
      (List.map_congr_left fun lane _ => by cases lane <;> simp [Option.filter])
  next hsome =>
    apply List.map_congr_left
    rintro lane -
    cases lane with
    | none => rfl
    | some code =>
      by_cases h : ∃ f ∈ failingEntries read s.table.slots, f.1.code = code
      · have hany : ((failingEntries read s.table.slots).any fun f => decide (f.1.code = code)) = true := by
          simpa using h
        have hmem : code ∈ (failingEntries read s.table.slots).map fun f => f.1.code := by
          simpa using h
        simp only [Option.bind_some, hany, if_true, Option.filter, hmem, not_true, decide_false]
        rfl
      · have hany : ((failingEntries read s.table.slots).any fun f => decide (f.1.code = code)) = false := by
          simpa using h
        have hmem : code ∉ (failingEntries read s.table.slots).map fun f => f.1.code := by
          simpa using h
        simp only [Option.bind_some, hany, Option.filter, hmem, not_false_eq_true, decide_true]
        rfl

end Sys2Proof.Machine
end

section
/-! PROOFS. The table's form (R55, R56): eight slots, the entries on distinct codes none of which is the own one, each
lane bound at most once. Each operation on the slots keeps it. -/

namespace Sys2Proof.Machine
open Sys2Proof.Safety

/-! ### An entry's own consistency (R55) -/

theorem entryOk_strike {struck : List Nat} {k : Nat} {e : Entry} (h : EntryOk e) :
    EntryOk (strike struck k e) := by
  simpa [EntryOk] using h

theorem isTracked_iff_lane {e : Entry} (h : EntryOk e) : e.isTracked = true ↔ e.lane.isSome = true := by
  simpa [Entry.isTracked] using h.1

theorem isTracked_of_lane {e : Entry} (h : EntryOk e) {lane : Nat} (hlane : e.lane = some lane) :
    e.isTracked = true :=
  (isTracked_iff_lane h).mpr (by simp [hlane])

@[simp] theorem Entry.gather_fields (figure : Option Nat) (e : Entry) :
    (e.gather figure).code = e.code ∧ (e.gather figure).state = e.state ∧
      (e.gather figure).lane = e.lane ∧ (e.gather figure).g = e.g ∧
      (e.gather figure).gValid = e.gValid ∧ (e.gather figure).age = e.age ∧
      (e.gather figure).low = e.low ∧ (e.gather figure).history = e.history ∧
      (e.gather figure).offset = e.offset ∧ (e.gather figure).discarded = e.discarded ∧
      (e.gather figure).record = e.record ∧ (e.gather figure).parityGood = e.parityGood ∧
      (e.gather figure).frameSum = e.frameSum + figure.getD 0 ∧
      (e.gather figure).frameCount = e.frameCount + (if figure.isSome then 1 else 0) := by
  cases figure <;> simp [Entry.gather]

/-- The frame found at a cycle end, if any, in the history with the lane's new place (R97, R98). -/
def heardFrame (decodes : Bool) (r : LaneResult) (e : Entry) : Option FrameRecord :=
  if decodes then frameTest (e.history.drop 1 ++ [r.place]) else none

/-- Whether a frame found at position `p` is accepted: aligned, or misaligned and confirmed (R83, R84, R103). -/
def acceptsFrame (p now : Nat) (e : Entry) (found : Option FrameRecord) : Bool :=
  found.isSome && (p = 31 || (p ≠ 0 && e.confirms now (31 - p)))

/-- What a lane's result makes of its entry, field by field (R59, R83, R84, R86, R97, R101 to R103). -/
theorem entryAtCycleEnd_eq (c : Settings) (own : Condition) (decodes : Bool) (p now : Nat)
    (watch : Option Nat) (r : LaneResult) (e : Entry) :
    entryAtCycleEnd c own decodes p now watch r e =
      { entry :=
          { e with
            frameSum := e.frameSum + r.figure.getD 0
            frameCount := e.frameCount + (if r.figure.isSome then 1 else 0)
            history := e.history.drop 1 ++ [r.place]
            offset :=
              if heardFrame decodes r e = none ∨ p = 0 then e.offset
              else if p = 31 then none else some { offset := 31 - p, count := now }
            discarded := (watchAfter now (heardFrame decodes r e).isSome watch e.discarded).2
            record :=
              if acceptsFrame p now e (heardFrame decodes r e) then heardFrame decodes r e
              else e.record
            parityGood := true }
        watch := (watchAfter now (heardFrame decodes r e).isSome watch e.discarded).1
        handed := true
        accepted := acceptsFrame p now e (heardFrame decodes r e)
        aligned := (heardFrame decodes r e).isSome && decide (p = 31)
        realigns :=
          acceptsFrame p now e (heardFrame decodes r e) && decide (p ≠ 31) &&
            (heardFrame decodes r e).any fun f =>
              realigns own c.ownCode f.condition e.code (31 - p) } := by
  have hgather : (e.gather r.figure).advance r.place =
      { e with
        frameSum := e.frameSum + r.figure.getD 0
        frameCount := e.frameCount + (if r.figure.isSome then 1 else 0)
        history := e.history.drop 1 ++ [r.place] } := by
    cases r.figure <;> rfl
  have hconfirms : ∀ o sum count history discarded parityGood, Entry.confirms now o
      { e with
        frameSum := sum, frameCount := count, history := history, discarded := discarded
        parityGood := parityGood } = e.confirms now o := fun _ _ _ _ _ _ => rfl
  have hheard : (if decodes then frameTest (e.history.drop 1 ++ [r.place]) else none) =
      heardFrame decodes r e := rfl
  unfold entryAtCycleEnd
  simp only [hgather, hheard, Entry.written]
  rcases watchAfter now (heardFrame decodes r e).isSome watch e.discarded with ⟨watch', discarded'⟩
  cases hfound : heardFrame decodes r e with
  | none => simp [acceptsFrame]
  | some f =>
    by_cases h31 : p = 31
    · simp [frameClass, h31, acceptsFrame]
    · by_cases h0 : p = 0
      · simp [frameClass, h0, acceptsFrame]
      · simp only [frameClass, h31, h0, if_false, hconfirms]
        cases hconf : e.confirms now (31 - p) <;> simp [acceptsFrame, h31, h0, hconf]

/-- What a cycle end never changes of an entry. -/
@[simp] theorem entryAtCycleEnd_kept (c : Settings) (own : Condition) (decodes : Bool) (p now : Nat)
    (watch : Option Nat) (r : LaneResult) (e : Entry) :
    (entryAtCycleEnd c own decodes p now watch r e).entry.code = e.code ∧
      (entryAtCycleEnd c own decodes p now watch r e).entry.state = e.state ∧
      (entryAtCycleEnd c own decodes p now watch r e).entry.lane = e.lane ∧
      (entryAtCycleEnd c own decodes p now watch r e).entry.g = e.g ∧
      (entryAtCycleEnd c own decodes p now watch r e).entry.gValid = e.gValid ∧
      (entryAtCycleEnd c own decodes p now watch r e).entry.age = e.age ∧
      (entryAtCycleEnd c own decodes p now watch r e).entry.low = e.low ∧
      (entryAtCycleEnd c own decodes p now watch r e).entry.parityGood = true ∧
      (entryAtCycleEnd c own decodes p now watch r e).handed = true := by
  simp [entryAtCycleEnd_eq]

theorem watchAfter_discarded_le {now : Nat} {valid : Bool} {watch : Option Nat} {discarded : Nat}
    (h : discarded ≤ 255) : (watchAfter now valid watch discarded).2 ≤ 255 := by
  unfold watchAfter
  split
  · exact h
  · split
    · split
      · exact Nat.min_le_left _ _
      · exact h
    · exact h

theorem entryOk_entryAtCycleEnd (c : Settings) (own : Condition) (decodes : Bool) (p now : Nat)
    (watch : Option Nat) (r : LaneResult) {e : Entry} (h : EntryOk e) :
    EntryOk (entryAtCycleEnd c own decodes p now watch r e).entry := by
  obtain ⟨hstate, hlane, hhistory, hage, hlow, hdiscarded⟩ := h
  rw [entryAtCycleEnd_eq]
  exact ⟨hstate, hlane, by simp [hhistory], hage, hlow, watchAfter_discarded_le hdiscarded⟩

@[simp] theorem Entry.dropStale_fields (now : Nat) (e : Entry) :
    (e.dropStale now).code = e.code ∧ (e.dropStale now).state = e.state ∧
      (e.dropStale now).lane = e.lane ∧ (e.dropStale now).g = e.g ∧
      (e.dropStale now).gValid = e.gValid ∧ (e.dropStale now).frameSum = e.frameSum ∧
      (e.dropStale now).frameCount = e.frameCount ∧ (e.dropStale now).age = e.age ∧
      (e.dropStale now).low = e.low ∧ (e.dropStale now).history = e.history ∧
      (e.dropStale now).discarded = e.discarded ∧ (e.dropStale now).record = e.record ∧
      (e.dropStale now).parityGood = e.parityGood := by
  unfold Entry.dropStale
  split
  · split <;> simp
  · simp

theorem entryOk_dropStale {now : Nat} {e : Entry} (h : EntryOk e) : EntryOk (e.dropStale now) := by
  simpa [EntryOk] using h

theorem entryOk_newEntry (code figure : Nat) : EntryOk (newEntry code figure) := by
  simp [EntryOk, newEntry]

@[simp] theorem Entry.ageRecord_fields (accepted : List Nat) (e : Entry) :
    (e.ageRecord accepted).code = e.code ∧ (e.ageRecord accepted).state = e.state ∧
      (e.ageRecord accepted).lane = e.lane ∧ (e.ageRecord accepted).g = e.g ∧
      (e.ageRecord accepted).gValid = e.gValid ∧
      (e.ageRecord accepted).frameSum = e.frameSum ∧
      (e.ageRecord accepted).frameCount = e.frameCount ∧
      (e.ageRecord accepted).age = e.age ∧ (e.ageRecord accepted).low = e.low ∧
      (e.ageRecord accepted).history = e.history ∧
      (e.ageRecord accepted).offset = e.offset ∧
      (e.ageRecord accepted).discarded = e.discarded := by
  unfold Entry.ageRecord
  split <;> simp [Entry.written]

theorem entryOk_ageRecord {accepted : List Nat} {e : Entry} (h : EntryOk e) :
    EntryOk (e.ageRecord accepted) := by
  simpa [EntryOk] using h

@[simp] theorem Entry.closeFrame_kept (c : Settings) (e : Entry) :
    (e.closeFrame c).code = e.code ∧ (e.closeFrame c).state = e.state ∧
      (e.closeFrame c).lane = e.lane ∧ (e.closeFrame c).history = e.history ∧
      (e.closeFrame c).offset = e.offset ∧ (e.closeFrame c).discarded = e.discarded ∧
      (e.closeFrame c).record = e.record ∧ (e.closeFrame c).parityGood = true := by
  unfold Entry.closeFrame
  split <;> simp [Entry.written]

theorem entryOk_closeFrame {c : Settings} {e : Entry} (h : EntryOk e) : EntryOk (e.closeFrame c) := by
  obtain ⟨hstate, hlane, hhistory, hage, hlow, hdiscarded⟩ := h
  refine ⟨by simpa using hstate, by simpa using hlane, by simpa using hhistory, ?_, ?_,
    by simpa using hdiscarded⟩
  · unfold Entry.closeFrame
    split
    · exact Nat.min_le_left _ _
    · exact Nat.zero_le _
  · unfold Entry.closeFrame
    split
    · exact hlow
    · simp only [Entry.written]
      split
      · exact Nat.min_le_left _ _
      · exact Nat.zero_le _

/-- An entry that stands after the boundary's update is the entry of its slot, in the same lane (R60 to R63). -/
theorem atBoundary_kept {c : Settings} {e e' : Entry} (h : e.atBoundary c = some e') :
    e'.code = e.code ∧ e'.state = e.state ∧ e'.lane = e.lane ∧ e'.offset = e.offset ∧
      e'.record = e.record ∧ e'.parityGood = true := by
  unfold Entry.atBoundary at h
  dsimp only at h
  split at h <;> split at h <;> simp only [Option.some.injEq, reduceCtorEq] at h <;> subst h
  · simp
  · simp [Entry.written]

theorem entryOk_atBoundary {c : Settings} {e e' : Entry} (h : EntryOk e)
    (he : e.atBoundary c = some e') : EntryOk e' := by
  unfold Entry.atBoundary at he
  dsimp only at he
  split at he <;> split at he <;> simp only [Option.some.injEq, reduceCtorEq] at he <;> subst he
  · exact entryOk_closeFrame h
  · obtain ⟨hstate, hlane, hhistory, -, hlow, hdiscarded⟩ := h
    exact ⟨hstate, hlane, hhistory, Nat.min_le_left _ _, hlow, hdiscarded⟩

theorem entryOk_openTo {lane : Nat} {e : Entry} (h : EntryOk e) (hlow : 1 ≤ lane) (hhigh : lane ≤ 4) :
    EntryOk (e.openTo lane) := by
  obtain ⟨-, -, -, hage, -, hdiscarded⟩ := h
  simp [EntryOk, Entry.openTo, Entry.written, hage, hdiscarded, hlow, hhigh]

theorem entryOk_evict {e : Entry} (h : EntryOk e) : EntryOk e.evict := by
  obtain ⟨-, -, hhistory, -, hlow, hdiscarded⟩ := h
  simp [EntryOk, Entry.evict, Entry.written, hhistory, hlow, hdiscarded]

/-! ### Changes of the slots -/

theorem slotsOk_mapSlots {own : Nat} {slots : List (Option Entry)}
    {f : Nat → Entry → Option Entry} (h : SlotsOk own slots)
    (hf : ∀ k e e', EntryOk e → f k e = some e' →
      e'.code = e.code ∧ e'.lane = e.lane ∧ EntryOk e') : SlotsOk own (mapSlots f slots) := by
  obtain ⟨hlength, hcodes, hown, hlanes, hentries⟩ := h
  have hok : ∀ {k e}, slots[k]? = some (some e) → EntryOk e := fun hk =>
    hentries _ (mem_entriesOf_of_getElem? hk)
  have hcodesSub := codesOf_mapSlots_sublist (f := f) slots fun k e e' hk hf' =>
    (hf k e e' (hok hk) hf').1
  have hlanesSub := filterMap_mapSlots_sublist Entry.lane (f := f) slots fun k e e' hk hf' =>
    .inl (hf k e e' (hok hk) hf').2.1
  refine ⟨by simpa using hlength, hcodes.sublist hcodesSub, fun hmem => hown (hcodesSub.subset hmem),
    hlanes.sublist hlanesSub, fun e' he' => ?_⟩
  obtain ⟨k, e, hk, hfe⟩ := mem_entriesOf_mapSlots.mp he'
  exact (hf k e e' (hok hk) hfe).2.2

theorem entriesOf_append (l₁ l₂ : List (Option Entry)) :
    entriesOf (l₁ ++ l₂) = entriesOf l₁ ++ entriesOf l₂ :=
  List.filterMap_append

/-- The form of slots that hold an entry: that of the others, and the entry's own place among them. -/
theorem slotsOk_middle {own : Nat} {l₁ l₂ : List (Option Entry)} {n : Entry} :
    SlotsOk own (l₁ ++ some n :: l₂) ↔
      SlotsOk own (l₁ ++ none :: l₂) ∧ n.code ∉ codesOf (l₁ ++ none :: l₂) ∧ n.code ≠ own ∧
        (∀ lane, n.lane = some lane →
          lane ∉ (entriesOf (l₁ ++ none :: l₂)).filterMap Entry.lane) ∧ EntryOk n := by
  unfold SlotsOk codesOf
  simp only [entriesOf_append, entriesOf_cons_none, entriesOf_cons_some, List.map_append,
    List.map_cons, List.filterMap_append, List.filterMap_cons, List.nodup_middle, List.nodup_cons,
    List.length_append, List.length_cons, List.mem_append, List.mem_cons]
  cases n.lane with
  | none => grind
  | some lane =>
    simp only [List.nodup_middle, List.nodup_cons, List.mem_append, Option.some.injEq,
      forall_eq']
    grind

/-- A new CANDIDATE takes a slot (R57), empty or another entry's (R58). -/
theorem slotsOk_putEntry {own k code figure : Nat} {slots : List (Option Entry)}
    (h : SlotsOk own slots) (hown : code ≠ own) (hcode : code ∉ codesOf slots) :
    SlotsOk own (putEntry k (newEntry code figure) slots) := by
  unfold putEntry
  by_cases hk : k < slots.length
  · have hsplit : slots = slots.take k ++ slots[k] :: slots.drop (k + 1) := by simp
    rw [List.set_eq_take_append_cons_drop, if_pos hk]
    have hrest : SlotsOk own (slots.take k ++ none :: slots.drop (k + 1)) ∧
        code ∉ codesOf (slots.take k ++ none :: slots.drop (k + 1)) := by
      cases ho : slots[k] with
      | none =>
        rw [ho] at hsplit
        rw [← hsplit]
        exact ⟨h, hcode⟩
      | some e =>
        rw [ho] at hsplit
        rw [hsplit] at h
        refine ⟨(slotsOk_middle.mp h).1, fun hmem => hcode ?_⟩
        rw [hsplit]
        simp only [codesOf, entriesOf_append, entriesOf_cons_none, entriesOf_cons_some,
          List.map_append, List.map_cons, List.mem_append, List.mem_cons] at hmem ⊢
        exact hmem.imp_right .inr
    exact slotsOk_middle.mpr ⟨hrest.1, hrest.2, hown, by simp [newEntry], entryOk_newEntry code figure⟩
  · rwa [List.set_eq_of_length_le (by omega)]

theorem slotsOk_admitOffer {own code figure : Nat} {slots : List (Option Entry)}
    (h : SlotsOk own slots) : SlotsOk own (admitOffer own code figure slots) := by
  unfold admitOffer
  split
  · exact h
  · rename_i hcode
    simp only [Bool.or_eq_true, decide_eq_true_eq, List.contains_iff_mem, not_or] at hcode
    obtain ⟨hown, hheld⟩ := hcode
    split
    · exact slotsOk_putEntry h hown hheld
    · split
      · split
        · split
          · exact slotsOk_putEntry h hown hheld
          · exact h
        · exact h
      · exact h

/-! ### Choices among the entries -/

/-- What a fold that keeps one of two chooses is in the list. -/
theorem mem_of_foldl_choose {α : Type} {choose : Option α → α → Option α}
    (hchoose : ∀ o x, choose o x = some x ∨ choose o x = o) {xs : List α} {y : α}
    (h : xs.foldl choose none = some y) : y ∈ xs := by
  have hgen : ∀ (xs : List α) (o : Option α), xs.foldl choose o = some y → y ∈ xs ∨ o = some y := by
    intro xs
    induction xs with
    | nil => exact fun o ho => .inr ho
    | cons x xs ih =>
      intro o ho
      rcases ih _ ho with hmem | hsome
      · exact .inl (List.mem_cons_of_mem x hmem)
      · rcases hchoose o x with hx | hx <;> rw [hx] at hsome
        · exact .inl (by simp_all)
        · exact .inr hsome
  simpa using hgen xs none h

theorem weaker_choose (o : Option Entry) (e : Entry) : weaker o e = some e ∨ weaker o e = o := by
  cases o with
  | none => exact .inl rfl
  | some b =>
    unfold weaker
    dsimp only
    split <;> simp

theorem higher_choose (o : Option Entry) (e : Entry) : higher o e = some e ∨ higher o e = o := by
  cases o with
  | none => exact .inl rfl
  | some b =>
    unfold higher
    dsimp only
    split <;> simp

theorem mem_of_weakest {es : List Entry} {w : Entry} (h : weakest es = some w) : w ∈ es :=
  mem_of_foldl_choose weaker_choose h

theorem mem_of_bestWaiter {slots : List (Option Entry)} {b : Entry} (h : bestWaiter slots = some b) :
    b ∈ entriesOf slots ∧ b.isTracked = false := by
  have hmem := mem_of_foldl_choose higher_choose h
  simpa [waitersOf] using hmem

/-! ### Codes and lanes stand for entries -/

theorem eq_of_nodup_filterMap {α β : Type} {φ : α → Option β} {xs : List α}
    (h : (xs.filterMap φ).Nodup) {x y : α} (hx : x ∈ xs) (hy : y ∈ xs) {z : β}
    (hxz : φ x = some z) (hyz : φ y = some z) : x = y := by
  induction xs with
  | nil => simp at hx
  | cons a xs ih =>
    have hnotMem : ∀ b ∈ xs, φ a = some z → φ b ≠ some z := by
      intro b hb haz hbz
      rw [List.filterMap_cons_some haz] at h
      exact (List.nodup_cons.mp h).1 (List.mem_filterMap.mpr ⟨b, hb, hbz⟩)
    rcases List.mem_cons.mp hx with hxa | hx <;> rcases List.mem_cons.mp hy with hya | hy
    · rw [hxa, hya]
    · exact absurd hyz (hnotMem y hy (hxa ▸ hxz))
    · exact absurd hxz (hnotMem x hx (hya ▸ hyz))
    · refine ih ?_ hx hy
      cases hφ : φ a with
      | none => rwa [List.filterMap_cons_none hφ] at h
      | some b =>
        rw [List.filterMap_cons_some hφ] at h
        exact (List.nodup_cons.mp h).2

theorem eq_of_code {slots : List (Option Entry)} (h : (codesOf slots).Nodup) {e e' : Entry}
    (he : e ∈ entriesOf slots) (he' : e' ∈ entriesOf slots) (hcode : e.code = e'.code) : e = e' :=
  List.inj_on_of_nodup_map h he he' hcode

theorem eq_of_lane {own : Nat} {slots : List (Option Entry)} (h : SlotsOk own slots) {e e' : Entry}
    (he : e ∈ entriesOf slots) (he' : e' ∈ entriesOf slots) {lane : Nat}
    (hlane : e.lane = some lane) (hlane' : e'.lane = some lane) : e = e' :=
  eq_of_nodup_filterMap h.2.2.2.1 he he' hlane hlane'

theorem entryOk_of_mem {own : Nat} {slots : List (Option Entry)} (h : SlotsOk own slots) {e : Entry}
    (he : e ∈ entriesOf slots) : EntryOk e :=
  h.2.2.2.2 e he

/-- The holder of a lane is the entry bound to it (R56, R68). -/
theorem holderOf_eq_some_iff {own : Nat} {slots : List (Option Entry)} (h : SlotsOk own slots)
    {lane : Nat} {e : Entry} :
    holderOf lane slots = some e ↔ e ∈ entriesOf slots ∧ e.lane = some lane := by
  constructor
  · intro hholder
    have htest := List.find?_some hholder
    simp only [Bool.and_eq_true, decide_eq_true_eq] at htest
    exact ⟨List.mem_of_find?_eq_some hholder, htest.2⟩
  · rintro ⟨he, hlane⟩
    have htest : (e.isTracked && decide (e.lane = some lane)) = true := by
      simp [isTracked_of_lane (entryOk_of_mem h he) hlane, hlane]
    cases hholder : holderOf lane slots with
    | none => exact absurd htest (by simpa using List.find?_eq_none.mp hholder e he)
    | some e' =>
      have htest' := List.find?_some hholder
      simp only [Bool.and_eq_true, decide_eq_true_eq] at htest'
      rw [eq_of_lane h (List.mem_of_find?_eq_some hholder) he htest'.2 hlane]

theorem mem_freeLanes {own : Nat} {slots : List (Option Entry)} (h : SlotsOk own slots) {lane : Nat} :
    lane ∈ freeLanes slots ↔
      1 ≤ lane ∧ lane ≤ 4 ∧ ∀ e ∈ entriesOf slots, e.lane ≠ some lane := by
  have hlanes : lane ∈ [1, 2, 3, 4] ↔ 1 ≤ lane ∧ lane ≤ 4 := by
    simp only [List.mem_cons, List.not_mem_nil, or_false]
    omega
  have hfree : (holderOf lane slots).isNone = true ↔ ∀ e ∈ entriesOf slots, e.lane ≠ some lane := by
    rw [Option.isNone_iff_eq_none, Option.eq_none_iff_forall_ne_some]
    simp only [ne_eq, holderOf_eq_some_iff h, not_and]
  rw [freeLanes, List.mem_filter, hlanes, hfree, and_assoc]

/-- The code bound to a lane at the start of a cycle is that of the entry in it (R34, R68). -/
theorem boundCodes_getElem? {own : Nat} {slots : List (Option Entry)} (h : SlotsOk own slots)
    {lane w : Nat} (hlow : 1 ≤ lane) (hhigh : lane ≤ 4) :
    (boundCodes slots)[lane - 1]? = some (some w) ↔
      ∃ e ∈ entriesOf slots, e.code = w ∧ e.lane = some lane := by
  have hget : (boundCodes slots)[lane - 1]? = some ((holderOf lane slots).map Entry.code) := by
    obtain rfl | rfl | rfl | rfl : lane = 1 ∨ lane = 2 ∨ lane = 3 ∨ lane = 4 := by omega
    all_goals rfl
  rw [hget, Option.some.injEq, Option.map_eq_some_iff]
  simp only [holderOf_eq_some_iff h]
  exact exists_congr fun e => by tauto

@[simp] theorem length_boundCodes (slots : List (Option Entry)) : (boundCodes slots).length = 4 := rfl

/-! ### The arbitration (R64 to R67) -/

/-- The entry of a code changed: the slots around it stand. -/
theorem changeCode_middle {slots : List (Option Entry)} (h : (codesOf slots).Nodup) {e : Entry}
    (he : e ∈ entriesOf slots) :
    ∃ l₁ l₂, slots = l₁ ++ some e :: l₂ ∧
      ∀ f, changeCode e.code f slots = l₁ ++ some (f e) :: l₂ := by
  obtain ⟨l₁, l₂, rfl⟩ := List.append_of_mem (mem_entriesOf.mp he)
  refine ⟨l₁, l₂, rfl, fun f => ?_⟩
  have hother : e.code ∉ codesOf (l₁ ++ l₂) := by
    simp only [codesOf, entriesOf_append, entriesOf_cons_some, List.map_append, List.map_cons,
      List.nodup_middle, List.nodup_cons] at h ⊢
    exact h.1
  have hkeep : ∀ o ∈ l₁ ++ l₂,
      (o.bind fun x => some (if x.code = e.code then f x else x)) = o := by
    intro o ho
    cases o with
    | none => rfl
    | some x =>
      have hne : x.code ≠ e.code := fun heq =>
        hother (mem_codesOf.mpr ⟨x, mem_entriesOf.mpr ho, heq⟩)
      simp [hne]
  rw [changeCode, mapEntries, List.map_append, List.map_cons,
    List.map_congr_left fun o ho => hkeep o (List.mem_append_left l₂ ho),
    List.map_congr_left fun o ho => hkeep o (List.mem_append_right l₁ ho)]
  simp

/-- A free lane opened to an entry without one (R67). -/
theorem slotsOk_changeCode_openTo {own lane : Nat} {slots : List (Option Entry)}
    (h : SlotsOk own slots) {b : Entry} (hb : b ∈ entriesOf slots) (hlow : 1 ≤ lane)
    (hhigh : lane ≤ 4) (hfree : ∀ e ∈ entriesOf slots, e.lane ≠ some lane) :
    SlotsOk own (changeCode b.code (Entry.openTo lane) slots) := by
  obtain ⟨l₁, l₂, rfl, hchange⟩ := changeCode_middle h.2.1 hb
  obtain ⟨hrest, hcode, hown, -, hok⟩ := slotsOk_middle.mp h
  rw [hchange]
  refine slotsOk_middle.mpr ⟨hrest, hcode, hown, ?_, entryOk_openTo hok hlow hhigh⟩
  intro lane' hlane' hmem
  obtain rfl : lane = lane' := by simpa [Entry.openTo, Entry.written] using hlane'
  obtain ⟨e, he, hlane⟩ := List.mem_filterMap.mp hmem
  refine hfree e ?_ hlane
  rw [mem_entriesOf] at he ⊢
  simp only [List.mem_append, List.mem_cons, reduceCtorEq, false_or] at he ⊢
  exact he.imp_right .inr

/-- An entry evicted from its lane leaves it free (R66). -/
theorem slotsOk_changeCode_evict {own lane : Nat} {slots : List (Option Entry)}
    (h : SlotsOk own slots) {w : Entry} (hw : w ∈ entriesOf slots) (hlane : w.lane = some lane) :
    SlotsOk own (changeCode w.code Entry.evict slots) ∧
      ∀ e ∈ entriesOf (changeCode w.code Entry.evict slots), e.lane ≠ some lane := by
  obtain ⟨l₁, l₂, rfl, hchange⟩ := changeCode_middle h.2.1 hw
  obtain ⟨hrest, hcode, hown, hlanes, hok⟩ := slotsOk_middle.mp h
  rw [hchange]
  refine ⟨slotsOk_middle.mpr ⟨hrest, hcode, hown, by simp [Entry.evict, Entry.written],
    entryOk_evict hok⟩, fun e he hlane' => ?_⟩
  rw [mem_entriesOf, List.mem_append, List.mem_cons, Option.some.injEq] at he
  rcases he with he | rfl | he
  · exact hlanes lane hlane (List.mem_filterMap.mpr
      ⟨e, mem_entriesOf.mpr (List.mem_append_left _ he), hlane'⟩)
  · simp [Entry.evict, Entry.written] at hlane'
  · exact hlanes lane hlane (List.mem_filterMap.mpr
      ⟨e, mem_entriesOf.mpr (List.mem_append_right _ (List.mem_cons_of_mem _ he)), hlane'⟩)

theorem mem_changeCode {code : Nat} {f : Entry → Entry} {slots : List (Option Entry)} {e : Entry}
    (he : e ∈ entriesOf slots) (hcode : e.code ≠ code) : e ∈ entriesOf (changeCode code f slots) := by
  rw [changeCode, mapEntries_eq_mapSlots, mem_entriesOf_mapSlots]
  obtain ⟨k, hk⟩ := mem_entriesOf_iff_getElem?.mp he
  exact ⟨k, e, hk, by simp [hcode]⟩

theorem slotsOk_arbitrate {own : Nat} {c : Settings} {slots : List (Option Entry)}
    (h : SlotsOk own slots) : SlotsOk own (arbitrate c slots).1 := by
  unfold arbitrate
  split
  · exact h
  · rename_i b hb
    obtain ⟨hmem, hwaits⟩ := mem_of_bestWaiter hb
    split
    · rename_i lane rest hlanes
      obtain ⟨hlow, hhigh, hfree⟩ := (mem_freeLanes h).mp (hlanes ▸ List.mem_cons_self)
      exact slotsOk_changeCode_openTo h hmem hlow hhigh hfree
    · split
      · exact h
      · rename_i w hw
        obtain ⟨hwmem, hwtracked⟩ := List.mem_filter.mp (mem_of_weakest hw)
        have hwok := entryOk_of_mem h hwmem
        obtain ⟨lane, hlane⟩ := Option.isSome_iff_exists.mp ((isTracked_iff_lane hwok).mp hwtracked)
        obtain ⟨hlow, hhigh⟩ := hwok.2.1 lane (Option.mem_def.mpr hlane)
        split
        · obtain ⟨hevicted, hfree⟩ := slotsOk_changeCode_evict h hwmem hlane
          rw [hlane, Option.getD_some]
          refine slotsOk_changeCode_openTo hevicted (mem_changeCode hmem fun heq => ?_) hlow hhigh hfree
          rw [eq_of_code h.2.1 hmem hwmem heq, hwtracked] at hwaits
          exact Bool.noConfusion hwaits
        · exact h

theorem slotsOk_tableWork {c : Settings} {offer : Option (Nat × Nat)} {slots : List (Option Entry)}
    (h : SlotsOk c.ownCode slots) : SlotsOk c.ownCode (tableWork c offer slots).1 := by
  have hupdated : SlotsOk c.ownCode (mapEntries (Entry.atBoundary c) slots) := by
    rw [mapEntries_eq_mapSlots]
    exact slotsOk_mapSlots h fun k e e' hok he =>
      ⟨(atBoundary_kept he).1, (atBoundary_kept he).2.2.1, entryOk_atBoundary hok he⟩
  unfold tableWork
  dsimp only
  split
  · exact slotsOk_arbitrate (slotsOk_admitOffer hupdated)
  · exact slotsOk_arbitrate hupdated

end Sys2Proof.Machine
end

section
/-! PROOFS. What the meanings of the commands make of each part of the state, in the order of their definitions: first the
commands within a cycle, then the cycle end, the boundary, the supply and the service line. -/

namespace Sys2Proof.Machine

/-! ### Within a cycle -/

/-- The end of a millisecond touches the time, the demand, the samples and the supply runs, and drives the pins. -/
@[simp] theorem endMs_fields (p i v sup : Int) (s : State) :
    (endMs p i v sup s).held = s.held ∧ (endMs p i v sup s).load = s.load ∧
      (endMs p i v sup s).config = s.config ∧
      (endMs p i v sup s).timer = { s.timer with phase := 20 * (s.ms + 1) } ∧
      (endMs p i v sup s).keying = countDemand s.ms s.timer.phase s.pins.demand s.keying ∧
      (endMs p i v sup s).correlator = s.correlator ∧ (endMs p i v sup s).table = s.table ∧
      (endMs p i v sup s).frames = s.frames ∧ (endMs p i v sup s).agreement = s.agreement ∧
      (endMs p i v sup s).regulation = s.regulation ∧ (endMs p i v sup s).survey = s.survey ∧
      (endMs p i v sup s).capture = s.capture ∧ (endMs p i v sup s).service = s.service ∧
      (endMs p i v sup s).edge = none ∧ (endMs p i v sup s).pending = s.pending := by
  simp [endMs]

/-- The supply runs count in the supervisor's runs alone (R164, R165). -/
theorem supplyRuns_eq (sample : Nat) (u : Supervisor) :
    ∃ low high, supplyRuns sample u = { u with lowRun := low, highRun := high } := by
  unfold supplyRuns
  split
  · exact ⟨u.lowRun, _, rfl⟩
  · exact ⟨_, u.highRun, rfl⟩

theorem endMs_supervisor_eq (p i v sup : Int) (s : State) :
    ∃ low high, (endMs p i v sup s).supervisor = { s.supervisor with lowRun := low, highRun := high } := by
  have hruns := supplyRuns_eq (supplySample sup) s.supervisor
  simp only [endMs, drive_fields]
  split
  · exact hruns
  · exact ⟨s.supervisor.lowRun, s.supervisor.highRun, rfl⟩

@[simp] theorem endSpan_fields (s : State) :
    (endSpan s).held = s.held ∧ (endSpan s).load = s.load ∧ (endSpan s).config = s.config ∧
      (endSpan s).timer = s.timer ∧ (endSpan s).keying = formDemand s.keying ∧
      (endSpan s).table = s.table ∧ (endSpan s).frames = s.frames ∧
      (endSpan s).agreement = s.agreement ∧ (endSpan s).regulation = s.regulation ∧
      (endSpan s).survey = s.survey ∧ (endSpan s).capture = s.capture ∧
      (endSpan s).supervisor = s.supervisor ∧ (endSpan s).service = s.service ∧
      (endSpan s).edge = s.edge ∧ (endSpan s).pending = s.pending := by
  unfold endSpan
  dsimp only
  split <;> simp [formSpan]

/-- A capture at a window end touches the store and the CAPDROP latch alone (R148). -/
theorem captureAtWindowEnd_eq (s : State) :
    ∃ capture latched, captureAtWindowEnd s =
      { s with
        capture := capture
        supervisor :=
          { s.supervisor with alarms := { s.supervisor.alarms with capdrop := latched } } } := by
  unfold captureAtWindowEnd
  split
  · split
    · unfold takeCapture
      dsimp only
      split
      · exact ⟨_, s.supervisor.alarms.capdrop, rfl⟩
      · exact ⟨_, true, rfl⟩
    · exact ⟨s.capture, s.supervisor.alarms.capdrop, rfl⟩
  · exact ⟨s.capture, s.supervisor.alarms.capdrop, rfl⟩

/-! ### The cycle end -/

/-- The parts of a cycle end's work that no block touches. -/
@[simp] theorem blocksAtCycleEnd_fields (c : Settings) (r : CycleReport) (s : State) :
    (blocksAtCycleEnd c r s).1.held = s.held ∧ (blocksAtCycleEnd c r s).1.load = s.load ∧
      (blocksAtCycleEnd c r s).1.lines = s.lines ∧ (blocksAtCycleEnd c r s).1.bus = s.bus ∧
      (blocksAtCycleEnd c r s).1.wire = s.wire ∧ (blocksAtCycleEnd c r s).1.config = s.config ∧
      (blocksAtCycleEnd c r s).1.timer = s.timer ∧
      (blocksAtCycleEnd c r s).1.keying = driveComparisons c r s.keying ∧
      (blocksAtCycleEnd c r s).1.front = s.front ∧
      (blocksAtCycleEnd c r s).1.agreement =
        (agreeAtCycleEnd r (cycleError r s) s.supervisor.condition s.agreement).1 ∧
      (blocksAtCycleEnd c r s).1.regulation =
        gatherSample c r.disturbed r.position r.instantOff s.regulation ∧
      (blocksAtCycleEnd c r s).1.survey = s.survey ∧
      (blocksAtCycleEnd c r s).1.capture = s.capture ∧
      (blocksAtCycleEnd c r s).1.service = s.service ∧
      (blocksAtCycleEnd c r s).1.pins = s.pins ∧ (blocksAtCycleEnd c r s).1.edge = s.edge ∧
      (blocksAtCycleEnd c r s).1.freeCount = s.freeCount ∧
      (blocksAtCycleEnd c r s).1.pending = s.pending ∧
      (blocksAtCycleEnd c r s).1.frames.ownFrame = s.frames.ownFrame ∧
      (blocksAtCycleEnd c r s).1.frames.cycleCount = s.frames.cycleCount ∧
      (blocksAtCycleEnd c r s).2.2 = cycleError r s := by
  simp [blocksAtCycleEnd, takeResults]

/-- Whether the lock is lost at a cycle end (R78). -/
def lockLost (r : CycleReport) (s : State) : Bool :=
  (agreeAtCycleEnd r (cycleError r s) s.supervisor.condition s.agreement).2

/-- The supervisor through the blocks' work: the working mark, the STAGE latch, and the TABLE latch of the reads. -/
@[simp] theorem blocksAtCycleEnd_supervisor (c : Settings) (r : CycleReport) (s : State) :
    (blocksAtCycleEnd c r s).1.supervisor.condition = s.supervisor.condition ∧
      (blocksAtCycleEnd c r s).1.supervisor.faultCause = s.supervisor.faultCause ∧
      (blocksAtCycleEnd c r s).1.supervisor.working = (s.supervisor.working && !lockLost r s) ∧
      (blocksAtCycleEnd c r s).1.supervisor.hold = s.supervisor.hold ∧
      (blocksAtCycleEnd c r s).1.supervisor.pendingHold = s.supervisor.pendingHold ∧
      (blocksAtCycleEnd c r s).1.supervisor.mains = s.supervisor.mains ∧
      (blocksAtCycleEnd c r s).1.supervisor.warn = s.supervisor.warn ∧
      (blocksAtCycleEnd c r s).1.supervisor.brownout = s.supervisor.brownout ∧
      (blocksAtCycleEnd c r s).1.supervisor.lowRun = s.supervisor.lowRun ∧
      (blocksAtCycleEnd c r s).1.supervisor.highRun = s.supervisor.highRun ∧
      (blocksAtCycleEnd c r s).1.supervisor.solitary = s.supervisor.solitary ∧
      (blocksAtCycleEnd c r s).1.supervisor.lastAligned = s.supervisor.lastAligned ∧
      (blocksAtCycleEnd c r s).1.supervisor.surveyRunning = s.supervisor.surveyRunning ∧
      (blocksAtCycleEnd c r s).1.supervisor.alarms.floor = s.supervisor.alarms.floor ∧
      (blocksAtCycleEnd c r s).1.supervisor.alarms.ilimit = s.supervisor.alarms.ilimit ∧
      (blocksAtCycleEnd c r s).1.supervisor.alarms.vlimit = s.supervisor.alarms.vlimit ∧
      (blocksAtCycleEnd c r s).1.supervisor.alarms.noself = s.supervisor.alarms.noself ∧
      (blocksAtCycleEnd c r s).1.supervisor.alarms.stage =
        (s.supervisor.alarms.stage ||
          ((driveComparisons c r s.keying).stage && !s.keying.stage)) ∧
      (blocksAtCycleEnd c r s).1.supervisor.alarms.supply = s.supervisor.alarms.supply ∧
      (blocksAtCycleEnd c r s).1.supervisor.alarms.capdrop = s.supervisor.alarms.capdrop := by
  simp [blocksAtCycleEnd, takeResults, superviseCycle, lockLost]

@[simp] theorem gatherFigures_kept (r : CycleReport) (relock : Nat) (k : Correlator) :
    (gatherFigures r relock k).gSelf = k.gSelf ∧
      (gatherFigures r relock k).gSelfValid = k.gSelfValid ∧
      (gatherFigures r relock k).reversed = k.reversed ∧
      (gatherFigures r relock k).xpSelf = k.xpSelf ∧
      (gatherFigures r relock k).residual = k.residual ∧
      (gatherFigures r relock k).darkSeen = k.darkSeen ∧
      (gatherFigures r relock k).lanes = k.lanes ∧
      (gatherFigures r relock k).dwellCode = k.dwellCode ∧
      (gatherFigures r relock k).startCodes = k.startCodes ∧
      (gatherFigures r relock k).waiting = (k.waiting && !(r.marked && relock = 1)) := by
  unfold gatherFigures
  cases r.self <;> cases r.search <;> simp

@[simp] theorem gatherFigures_sums (r : CycleReport) (relock : Nat) (k : Correlator) :
    (gatherFigures r relock k).selfSum = k.selfSum + r.self.getD 0 ∧
      (gatherFigures r relock k).selfCount = k.selfCount + (if r.self.isSome then 1 else 0) ∧
      (gatherFigures r relock k).dwellSum = k.dwellSum + r.search.getD 0 ∧
      (gatherFigures r relock k).dwellCount =
        k.dwellCount + (if r.search.isSome then 1 else 0) := by
  unfold gatherFigures
  cases r.self <;> cases r.search <;> simp

/-- The correlator through the blocks' work: the lanes' figures gathered, and the lanes of removed entries closed. -/
theorem blocksAtCycleEnd_correlator (c : Settings) (r : CycleReport) (s : State) :
    ∃ lanes, (blocksAtCycleEnd c r s).1.correlator =
      { gatherFigures r s.agreement.relock s.correlator with lanes := lanes } := by
  unfold blocksAtCycleEnd
  dsimp only [takeResults]
  obtain ⟨table, lanes, watches, latched, h⟩ := checkParity_eq (fun _ => readAtCycleEnd r)
    { s with
      keying := driveComparisons c r s.keying
      correlator := gatherFigures r s.agreement.relock s.correlator
      regulation := gatherSample c r.disturbed r.position r.instantOff s.regulation
      agreement := (agreeAtCycleEnd r (cycleError r s) s.supervisor.condition s.agreement).1
      supervisor :=
        superviseCycle (agreeAtCycleEnd r (cycleError r s) s.supervisor.condition s.agreement).2
          ((driveComparisons c r s.keying).stage && !s.keying.stage) s.supervisor }
  exact ⟨lanes, by rw [h]; rfl⟩

/-- The frame position of the cycle that starts at a cycle end (R3, R88). -/
def nextPosition (s0 : State) (heard : Heard) : Nat :=
  if heard.realign then 0 else (s0.timer.position + 1) % 32

/-- The boundary the cycle end makes (R3). -/
def boundaryAt (s0 : State) (heard : Heard) : Option BoundaryKind :=
  boundaryOf s0.timer.position heard.realign

/-- The mean S left to a boundary's warn test (R161). -/
def warnLeftAt (inputs : CycleInputs) (s0 : State) (heard : Heard) : Option Nat :=
  warnLeft inputs s0.config.isSome (boundaryAt s0 heard) (supplyMean s0.front)

/-- The state with the cycle end's warn test made and its condition derived (R152, R163). -/
def settledCycle (inputs : CycleInputs) (s0 : State) (heard : Heard) (s : State) : State :=
  derive (takeWarn
    (if (warnLeftAt inputs s0 heard).isSome then none else supplyMean s0.front) s)

/-- The table that the cycle starting at a cycle end finds, with the reads of its start made. -/
def startedTable (inputs : CycleInputs) (s : State) : State := readAll (upsetEntries inputs.started s)

theorem closeCycle_eq (inputs : CycleInputs) (s0 : State) (heard : Heard) (e : Option Int) (s : State) :
    closeCycle inputs s0 heard e s =
      { startCycle (25600 + adjustmentOf e).toNat (nextPosition s0 heard) (supplyMean s0.front)
          (startedTable inputs (settledCycle inputs s0 heard s)) with
        freeCount :=
          (startCycle (25600 + adjustmentOf e).toNat (nextPosition s0 heard) (supplyMean s0.front)
            (startedTable inputs (settledCycle inputs s0 heard s))).freeCount + 1
        edge :=
          some
            { ended := s0.timer.position
              boundary := boundaryAt s0 heard
              started := nextPosition s0 heard
              dwellDue :=
                dwellEnds s0.config.isSome s0.correlator.waiting s0.timer.position
                  (boundaryAt s0 heard)
              offer := none
              accepted := heard.accepted
              aligned := heard.aligned
              meanS := supplyMean s0.front
              warnDue := warnLeftAt inputs s0 heard
              endedCodes := s0.correlator.startCodes } } := rfl

@[simp] theorem startedTable_fields (inputs : CycleInputs) (s : State) :
    (startedTable inputs s).held = s.held ∧ (startedTable inputs s).load = s.load ∧
      (startedTable inputs s).lines = s.lines ∧ (startedTable inputs s).bus = s.bus ∧
      (startedTable inputs s).wire = s.wire ∧ (startedTable inputs s).config = s.config ∧
      (startedTable inputs s).timer = s.timer ∧ (startedTable inputs s).keying = s.keying ∧
      (startedTable inputs s).front = s.front ∧
      (startedTable inputs s).agreement = s.agreement ∧
      (startedTable inputs s).regulation = s.regulation ∧
      (startedTable inputs s).survey = s.survey ∧ (startedTable inputs s).capture = s.capture ∧
      (startedTable inputs s).service = s.service ∧ (startedTable inputs s).pins = s.pins ∧
      (startedTable inputs s).edge = s.edge ∧ (startedTable inputs s).freeCount = s.freeCount ∧
      (startedTable inputs s).pending = s.pending ∧
      (startedTable inputs s).frames.ownFrame = s.frames.ownFrame ∧
      (startedTable inputs s).frames.cycleCount = s.frames.cycleCount := by
  simp [startedTable, readAll]

/-- A cycle end's close leaves what no block of the next cycle takes anew. -/
@[simp] theorem closeCycle_fields (inputs : CycleInputs) (s0 : State) (heard : Heard) (e : Option Int)
    (s : State) :
    (closeCycle inputs s0 heard e s).held = s.held ∧
      (closeCycle inputs s0 heard e s).load = s.load ∧
      (closeCycle inputs s0 heard e s).lines = s.lines ∧
      (closeCycle inputs s0 heard e s).bus = s.bus ∧
      (closeCycle inputs s0 heard e s).wire = s.wire ∧
      (closeCycle inputs s0 heard e s).config = s.config ∧
      (closeCycle inputs s0 heard e s).timer =
        { phase := 0, length := (25600 + adjustmentOf e).toNat, position := nextPosition s0 heard,
          window := .undecided } ∧
      (closeCycle inputs s0 heard e s).agreement = s.agreement ∧
      (closeCycle inputs s0 heard e s).regulation = s.regulation ∧
      (closeCycle inputs s0 heard e s).survey = s.survey ∧
      (closeCycle inputs s0 heard e s).capture = s.capture ∧
      (closeCycle inputs s0 heard e s).service = s.service ∧
      (closeCycle inputs s0 heard e s).pins = s.pins ∧
      (closeCycle inputs s0 heard e s).freeCount = s.freeCount + 1 ∧
      (closeCycle inputs s0 heard e s).pending = s.pending ∧
      (closeCycle inputs s0 heard e s).frames.ownFrame = s.frames.ownFrame ∧
      (closeCycle inputs s0 heard e s).frames.cycleCount = s.frames.cycleCount ∧
      (closeCycle inputs s0 heard e s).edge =
        some
          { ended := s0.timer.position
            boundary := boundaryAt s0 heard
            started := nextPosition s0 heard
            dwellDue :=
              dwellEnds s0.config.isSome s0.correlator.waiting s0.timer.position
                (boundaryAt s0 heard)
            offer := none
            accepted := heard.accepted
            aligned := heard.aligned
            meanS := supplyMean s0.front
            warnDue := warnLeftAt inputs s0 heard
            endedCodes := s0.correlator.startCodes } := by
  simp [closeCycle_eq, startCycle, takeBit, bindLanes, settledCycle]

/-- The condition after a cycle end: the one its facts give with its warn test made (R152, R163). -/
@[simp] theorem closeCycle_supervisor (inputs : CycleInputs) (s0 : State) (heard : Heard)
    (e : Option Int) (s : State) :
    (closeCycle inputs s0 heard e s).supervisor =
      (startedTable inputs (settledCycle inputs s0 heard s)).supervisor := by
  simp [closeCycle_eq, startCycle, takeBit, bindLanes]

@[simp] theorem closeCycle_table (inputs : CycleInputs) (s0 : State) (heard : Heard)
    (e : Option Int) (s : State) :
    (closeCycle inputs s0 heard e s).table =
        (startedTable inputs (settledCycle inputs s0 heard s)).table ∧
      (closeCycle inputs s0 heard e s).frames =
        (startedTable inputs (settledCycle inputs s0 heard s)).frames := by
  simp [closeCycle_eq, startCycle, takeBit, bindLanes]

/-- The new cycle's keying: its data bit, its keyed mark, and no demand counted (R10, R14, R15). -/
theorem closeCycle_keying (inputs : CycleInputs) (s0 : State) (heard : Heard) (e : Option Int)
    (s : State) :
    (closeCycle inputs s0 heard e s).keying =
      { s.keying with
        dataBit := presentedBit s.frames.ownFrame (nextPosition s0 heard)
        keyed := (settledCycle inputs s0 heard s).supervisor.condition.output
        demandSum := 0, demandMs := 0, segments := [], meanDemand := none } := by
  simp [closeCycle_eq, startCycle, takeBit, bindLanes, settledCycle, startedTable, readAll, derive,
    setCondition_keying]

theorem closeCycle_front (inputs : CycleInputs) (s0 : State) (heard : Heard) (e : Option Int)
    (s : State) :
    (closeCycle inputs s0 heard e s).front =
      clearFront (supplyMean s0.front)
        (settledCycle inputs s0 heard s).supervisor.condition.samples s.front := by
  simp [closeCycle_eq, startCycle, takeBit, bindLanes, settledCycle, startedTable, readAll,
    clearFront]

theorem closeCycle_correlator (inputs : CycleInputs) (s0 : State) (heard : Heard) (e : Option Int)
    (s : State) :
    (closeCycle inputs s0 heard e s).correlator =
      { s.correlator with
        xpSelf := none, residual := none
        darkSeen := decide ((settledCycle inputs s0 heard s).supervisor.condition = .dark)
        lanes := boundCodes (startedTable inputs (settledCycle inputs s0 heard s)).table.slots
        startCodes := codesOf (startedTable inputs (settledCycle inputs s0 heard s)).table.slots } := by
  simp [closeCycle_eq, startCycle, takeBit, bindLanes, settledCycle, startedTable, readAll, derive,
    setCondition_correlator]

/-- The state the cycle ended in, with the cycle count advanced and its entries struck (R70, R84). -/
def endedState (inputs : CycleInputs) (s0 : State) : State :=
  upsetEntries inputs.ended
    (s0.setFrames { s0.frames with cycleCount := (s0.frames.cycleCount + 1) % 65536 })

@[simp] theorem endedState_fields (inputs : CycleInputs) (s : State) :
    (endedState inputs s).held = s.held ∧ (endedState inputs s).load = s.load ∧
      (endedState inputs s).lines = s.lines ∧ (endedState inputs s).bus = s.bus ∧
      (endedState inputs s).wire = s.wire ∧ (endedState inputs s).config = s.config ∧
      (endedState inputs s).timer = s.timer ∧ (endedState inputs s).keying = s.keying ∧
      (endedState inputs s).front = s.front ∧ (endedState inputs s).correlator = s.correlator ∧
      (endedState inputs s).agreement = s.agreement ∧
      (endedState inputs s).regulation = s.regulation ∧
      (endedState inputs s).survey = s.survey ∧ (endedState inputs s).capture = s.capture ∧
      (endedState inputs s).supervisor = s.supervisor ∧
      (endedState inputs s).service = s.service ∧ (endedState inputs s).pins = s.pins ∧
      (endedState inputs s).edge = s.edge ∧ (endedState inputs s).freeCount = s.freeCount ∧
      (endedState inputs s).pending = s.pending ∧
      (endedState inputs s).table.errors = s.table.errors ∧
      (endedState inputs s).table.slots =
        mapSlots (fun k e => some (strike inputs.ended k e)) s.table.slots ∧
      (endedState inputs s).frames =
        { s.frames with cycleCount := (s.frames.cycleCount + 1) % 65536 } := by
  simp [endedState, upsetEntries_slots]

theorem endCycle_of_none {inputs : CycleInputs} {s0 : State} (h : s0.config = none) :
    endCycle inputs s0 =
      closeCycle inputs s0 { accepted := [], aligned := [], realign := false } none
        (endedState inputs s0) := by
  simp only [endCycle, h]
  rfl

theorem endCycle_of_some {inputs : CycleInputs} {s0 : State} {c : Settings} (h : s0.config = some c) :
    endCycle inputs s0 =
      closeCycle inputs s0 (blocksAtCycleEnd c (cycleReport c s0) (endedState inputs s0)).2.1
        (cycleError (cycleReport c s0) (endedState inputs s0))
        (blocksAtCycleEnd c (cycleReport c s0) (endedState inputs s0)).1 := by
  simp only [endCycle, h]
  rfl

theorem exec_cycleEnd (inputs : CycleInputs) {s : State} (h : s.held = false) :
    exec (.cycleEnd inputs) s = .next (drive (endCycle inputs (runTo s.timer.length s))) := by
  simp [exec, execCycleEnd, h]

end Sys2Proof.Machine
end

section
/-! PROOFS. The frame boundary taken apart into its stages (R60, R111, R135, R161), and what each leaves of the state
before it. -/

namespace Sys2Proof.Machine

/-! ### The dwell end -/

/-- A dwell end that is not owed, or that the search lane's wait holds back, changes nothing (R53). -/
theorem takeDwellEnd_of_not_due {c : Settings} {g : CycleEdge} {s : State}
    (h : (g.dwellDue && !s.correlator.waiting) = false) : takeDwellEnd c g s = s := by
  unfold takeDwellEnd
  rw [if_pos]
  cases hdue : g.dwellDue <;> simp_all

/-- A dwell end away from a boundary: the lane moves on, and its offer reaches the table at once (R57). -/
theorem takeDwellEnd_at_once {c : Settings} {g : CycleEdge} {s : State}
    (hdue : g.dwellDue = true) (hwaiting : s.correlator.waiting = false) (hb : g.boundary = none) :
    ∃ slots, takeDwellEnd c g s =
        { s with
          table := { s.table with slots := slots }
          correlator :=
            { moveDwell c g.endedCodes s.correlator with startCodes := codesOf slots }
          edge := some { g with dwellDue := false } } ∧
      slots =
        match dwellOffer c s with
        | some (code, figure) => admitOffer c.ownCode code figure s.table.slots
        | none => s.table.slots := by
  unfold takeDwellEnd
  rw [if_neg (by simp [hdue, hwaiting]), if_neg (by simp [hb])]
  exact ⟨_, rfl, rfl⟩

/-- Whether a boundary takes the dwell end of its cycle end (R51, R53, R60). -/
def dwellTaken (g : CycleEdge) (s : State) : Bool := g.dwellDue && !s.correlator.waiting

/-- The cycle end's record as a boundary reads it, its dwell end taken (R51, R60). -/
def boundaryEdge (c : Settings) (g : CycleEdge) (s : State) : CycleEdge :=
  { g with
    dwellDue := g.dwellDue && s.correlator.waiting
    offer := if dwellTaken g s then dwellOffer c s else g.offer }

/-- The state a boundary's work begins in, its dwell end taken. -/
def boundaryStart (c : Settings) (g : CycleEdge) (s : State) : State :=
  { s with
    correlator :=
      if dwellTaken g s then moveDwell c g.endedCodes s.correlator else s.correlator
    edge := some (boundaryEdge c g s) }

theorem takeDwellEnd_at_boundary (c : Settings) {g : CycleEdge} {s : State}
    (hedge : s.edge = some g) (hb : g.boundary.isSome = true) :
    takeDwellEnd c g s = boundaryStart c g s := by
  by_cases htaken : dwellTaken g s = true
  · have hdue : g.dwellDue = true ∧ s.correlator.waiting = false := by
      simpa [dwellTaken] using htaken
    unfold takeDwellEnd
    simp [hdue, hb, boundaryStart, boundaryEdge, dwellTaken, State.setEdge, State.setCorrelator]
  · rw [Bool.not_eq_true] at htaken
    have hdue : (g.dwellDue && s.correlator.waiting) = g.dwellDue := by
      unfold dwellTaken at htaken
      cases hd : g.dwellDue <;> simp_all
    rw [takeDwellEnd_of_not_due htaken]
    simp [boundaryStart, boundaryEdge, htaken, hdue, ← hedge]

@[simp] theorem boundaryStart_fields (c : Settings) (g : CycleEdge) (s : State) :
    (boundaryStart c g s).held = s.held ∧ (boundaryStart c g s).load = s.load ∧
      (boundaryStart c g s).lines = s.lines ∧ (boundaryStart c g s).bus = s.bus ∧
      (boundaryStart c g s).wire = s.wire ∧ (boundaryStart c g s).config = s.config ∧
      (boundaryStart c g s).timer = s.timer ∧ (boundaryStart c g s).keying = s.keying ∧
      (boundaryStart c g s).front = s.front ∧ (boundaryStart c g s).table = s.table ∧
      (boundaryStart c g s).frames = s.frames ∧ (boundaryStart c g s).agreement = s.agreement ∧
      (boundaryStart c g s).regulation = s.regulation ∧
      (boundaryStart c g s).survey = s.survey ∧ (boundaryStart c g s).capture = s.capture ∧
      (boundaryStart c g s).supervisor = s.supervisor ∧
      (boundaryStart c g s).service = s.service ∧ (boundaryStart c g s).pins = s.pins ∧
      (boundaryStart c g s).edge = some (boundaryEdge c g s) ∧
      (boundaryStart c g s).freeCount = s.freeCount ∧
      (boundaryStart c g s).pending = s.pending := by
  simp [boundaryStart]

/-- What the self lane holds stands through a dwell end. -/
@[simp] theorem boundaryStart_correlator_kept (c : Settings) (g : CycleEdge) (s : State) :
    (boundaryStart c g s).correlator.selfSum = s.correlator.selfSum ∧
      (boundaryStart c g s).correlator.selfCount = s.correlator.selfCount ∧
      (boundaryStart c g s).correlator.gSelf = s.correlator.gSelf ∧
      (boundaryStart c g s).correlator.gSelfValid = s.correlator.gSelfValid ∧
      (boundaryStart c g s).correlator.reversed = s.correlator.reversed ∧
      (boundaryStart c g s).correlator.xpSelf = s.correlator.xpSelf ∧
      (boundaryStart c g s).correlator.residual = s.correlator.residual ∧
      (boundaryStart c g s).correlator.darkSeen = s.correlator.darkSeen ∧
      (boundaryStart c g s).correlator.lanes = s.correlator.lanes ∧
      (boundaryStart c g s).correlator.waiting = s.correlator.waiting ∧
      (boundaryStart c g s).correlator.startCodes = s.correlator.startCodes := by
  unfold boundaryStart
  dsimp only
  split <;> simp [moveDwell]

/-! ### The self lane (R47 to R49) -/

@[simp] theorem selfAtBoundary_kept (c : Settings) (k : Correlator) :
    (selfAtBoundary c k).selfSum = 0 ∧ (selfAtBoundary c k).selfCount = 0 ∧
      (selfAtBoundary c k).xpSelf = k.xpSelf ∧ (selfAtBoundary c k).residual = k.residual ∧
      (selfAtBoundary c k).darkSeen = k.darkSeen ∧ (selfAtBoundary c k).lanes = k.lanes ∧
      (selfAtBoundary c k).dwellCode = k.dwellCode ∧
      (selfAtBoundary c k).dwellSum = k.dwellSum ∧
      (selfAtBoundary c k).dwellCount = k.dwellCount ∧
      (selfAtBoundary c k).waiting = k.waiting ∧
      (selfAtBoundary c k).startCodes = k.startCodes := by
  unfold selfAtBoundary
  split
  · simp
  · dsimp only
    split <;> simp

/-- The self lane's outcome is that of its own fields. -/
theorem selfAtBoundary_congr {c : Settings} {k k' : Correlator} (hsum : k.selfSum = k'.selfSum)
    (hcount : k.selfCount = k'.selfCount) (hg : k.gSelf = k'.gSelf)
    (hvalid : k.gSelfValid = k'.gSelfValid) (hreversed : k.reversed = k'.reversed) :
    (selfAtBoundary c k).gSelf = (selfAtBoundary c k').gSelf ∧
      (selfAtBoundary c k).gSelfValid = (selfAtBoundary c k').gSelfValid ∧
      (selfAtBoundary c k).reversed = (selfAtBoundary c k').reversed ∧
      reversedCause c k = reversedCause c k' := by
  have hmean : selfMean k = selfMean k' := by simp [selfMean, hsum, hcount]
  have houtcome : (selfAtBoundary c k).gSelf = (selfAtBoundary c k').gSelf ∧
      (selfAtBoundary c k).gSelfValid = (selfAtBoundary c k').gSelfValid ∧
      (selfAtBoundary c k).reversed = (selfAtBoundary c k').reversed := by
    unfold selfAtBoundary
    rw [hmean]
    cases selfMean k' with
    | none => simp [hg, hvalid, hreversed]
    | some mean =>
      dsimp only
      split <;> simp [hg, hvalid, hreversed]
  exact ⟨houtcome.1, houtcome.2.1, houtcome.2.2, by simp [reversedCause, hmean, houtcome.2.2]⟩

/-! ### The stages -/

/-- The state once the table's boundary work has read its entries (R70, R71). -/
def readStage (upsets : BoundaryUpsets) (s : State) : State := readAll (upsetEntries upsets.work s)

/-- The state once the self lane and the table have done their work (R47 to R49, R60). -/
def tableStage (c : Settings) (upsets : BoundaryUpsets) (g : CycleEdge) (s : State) : State :=
  tableBoundary c g
    ((readStage upsets s).setCorrelator (selfAtBoundary c (readStage upsets s).correlator))

/-- The state once regulation's apply stage has read its entries (R111). -/
def applyRead (c : Settings) (upsets : BoundaryUpsets) (g : CycleEdge) (s : State) : State :=
  readForRegulation upsets.apply (tableStage c upsets g s)

/-- The state once the staged step is applied (R112, R113, R115). -/
def applyStage (c : Settings) (kind : BoundaryKind) (upsets : BoundaryUpsets) (g : CycleEdge)
    (s : State) : State :=
  applyBoundary kind (applyRead c upsets g s)

/-- The state once the survey coordinator has read its entries (R135). -/
def surveyRead (c : Settings) (kind : BoundaryKind) (upsets : BoundaryUpsets) (g : CycleEdge)
    (s : State) : State :=
  readForSurvey upsets.survey (applyStage c kind upsets g s)

/-- The state once the coordinator's work and the survey adjustment are done (R131, R135). -/
def surveyStage (c : Settings) (kind : BoundaryKind) (upsets : BoundaryUpsets) (g : CycleEdge)
    (s : State) : State :=
  surveyBoundary c (surveyRead c kind upsets g s)

/-- The aligned codes handed to the supervisor: those whose entries stand (R106). -/
def alignedHanded (c : Settings) (kind : BoundaryKind) (upsets : BoundaryUpsets) (g : CycleEdge)
    (s : State) : List Nat :=
  g.aligned.filter fun code =>
    (codesOf (surveyStage c kind upsets g s).table.slots).contains code

/-- The supervisor's facts as the boundary settles them (R157, R158, R160, R161). -/
def settledFacts (c : Settings) (kind : BoundaryKind) (upsets : BoundaryUpsets) (g : CycleEdge)
    (s : State) : Supervisor :=
  settleFacts (reversedCause c s.correlator) (surveyStage c kind upsets g s).table.slots
    (surveyStage c kind upsets g s).agreement.lock (alignedHanded c kind upsets g s)
    ((surveyStage c kind upsets g s).survey.phaseNow = .running)
    (surveyStage c kind upsets g s).supervisor

/-- The state once the supervisor has settled the condition for the new frame (R161). -/
def superviseStage (c : Settings) (kind : BoundaryKind) (upsets : BoundaryUpsets) (g : CycleEdge)
    (s : State) : State :=
  superviseBoundary (reversedCause c s.correlator) (alignedHanded c kind upsets g s)
    (surveyStage c kind upsets g s)

/-- The state once regulation's plan stage has read its entries (R111). -/
def planRead (c : Settings) (kind : BoundaryKind) (upsets : BoundaryUpsets) (g : CycleEdge)
    (s : State) : State :=
  readForRegulation upsets.plan (superviseStage c kind upsets g s)

/-- The state once the new frame's step is planned (R116, R128). -/
def plannedStage (c : Settings) (kind : BoundaryKind) (upsets : BoundaryUpsets) (g : CycleEdge)
    (s : State) : State :=
  planBoundary c (appliedStep kind s.regulation) (planRead c kind upsets g s)

/-- A read of all entries leaves everything but the table, the lanes, the watches and the TABLE latch. -/
@[simp] theorem readStage_fields (upsets : BoundaryUpsets) (s : State) :
    (readStage upsets s).held = s.held ∧ (readStage upsets s).load = s.load ∧
      (readStage upsets s).lines = s.lines ∧ (readStage upsets s).bus = s.bus ∧
      (readStage upsets s).wire = s.wire ∧ (readStage upsets s).config = s.config ∧
      (readStage upsets s).timer = s.timer ∧ (readStage upsets s).keying = s.keying ∧
      (readStage upsets s).front = s.front ∧ (readStage upsets s).agreement = s.agreement ∧
      (readStage upsets s).regulation = s.regulation ∧ (readStage upsets s).survey = s.survey ∧
      (readStage upsets s).capture = s.capture ∧ (readStage upsets s).service = s.service ∧
      (readStage upsets s).pins = s.pins ∧ (readStage upsets s).edge = s.edge ∧
      (readStage upsets s).freeCount = s.freeCount ∧
      (readStage upsets s).pending = s.pending ∧
      (readStage upsets s).frames.cycleCount = s.frames.cycleCount := by
  simp [readStage, readAll]

theorem reversedCause_readStage (c : Settings) (upsets : BoundaryUpsets) (s : State) :
    reversedCause c (readStage upsets s).correlator = reversedCause c s.correlator := by
  apply (selfAtBoundary_congr _ _ _ _ _).2.2.2 <;> simp [readStage, readAll]

theorem boundaryWork_eq (c : Settings) (kind : BoundaryKind) (upsets : BoundaryUpsets)
    (g : CycleEdge) (s : State) :
    boundaryWork c kind upsets g s = frameBoundary kind (plannedStage c kind upsets g s) := by
  have happlied : appliedStep kind (readStage upsets s).regulation =
      appliedStep kind s.regulation := by simp
  unfold plannedStage planRead superviseStage
  rw [← reversedCause_readStage c upsets s, ← happlied]
  rfl

/-- The blocks before the supervisor touch neither the time, the front end, the keying nor the supervisor's facts. -/
@[simp] theorem surveyStage_fields (c : Settings) (kind : BoundaryKind) (upsets : BoundaryUpsets)
    (g : CycleEdge) (s : State) :
    (surveyStage c kind upsets g s).held = s.held ∧
      (surveyStage c kind upsets g s).load = s.load ∧
      (surveyStage c kind upsets g s).lines = s.lines ∧
      (surveyStage c kind upsets g s).bus = s.bus ∧
      (surveyStage c kind upsets g s).wire = s.wire ∧
      (surveyStage c kind upsets g s).config = s.config ∧
      (surveyStage c kind upsets g s).timer = s.timer ∧
      (surveyStage c kind upsets g s).keying = s.keying ∧
      (surveyStage c kind upsets g s).front = s.front ∧
      (surveyStage c kind upsets g s).capture = s.capture ∧
      (surveyStage c kind upsets g s).service = s.service ∧
      (surveyStage c kind upsets g s).pins = s.pins ∧
      (surveyStage c kind upsets g s).edge = s.edge ∧
      (surveyStage c kind upsets g s).freeCount = s.freeCount ∧
      (surveyStage c kind upsets g s).pending = s.pending ∧
      (surveyStage c kind upsets g s).frames.ownFrame = s.frames.ownFrame ∧
      (surveyStage c kind upsets g s).frames.cycleCount = s.frames.cycleCount := by
  simp [surveyStage, surveyBoundary, surveyRead, readForSurvey, applyStage, applyBoundary,
    applyRead, readForRegulation, tableStage, tableBoundary, readStage, readAll]

@[simp] theorem surveyStage_facts (c : Settings) (kind : BoundaryKind) (upsets : BoundaryUpsets)
    (g : CycleEdge) (s : State) :
    (surveyStage c kind upsets g s).supervisor.condition = s.supervisor.condition ∧
      (surveyStage c kind upsets g s).supervisor.faultCause = s.supervisor.faultCause ∧
      (surveyStage c kind upsets g s).supervisor.working = s.supervisor.working ∧
      (surveyStage c kind upsets g s).supervisor.hold = s.supervisor.hold ∧
      (surveyStage c kind upsets g s).supervisor.pendingHold = s.supervisor.pendingHold ∧
      (surveyStage c kind upsets g s).supervisor.mains = s.supervisor.mains ∧
      (surveyStage c kind upsets g s).supervisor.warn = s.supervisor.warn ∧
      (surveyStage c kind upsets g s).supervisor.brownout = s.supervisor.brownout ∧
      (surveyStage c kind upsets g s).supervisor.lowRun = s.supervisor.lowRun ∧
      (surveyStage c kind upsets g s).supervisor.highRun = s.supervisor.highRun ∧
      (surveyStage c kind upsets g s).supervisor.solitary = s.supervisor.solitary ∧
      (surveyStage c kind upsets g s).supervisor.lastAligned = s.supervisor.lastAligned ∧
      (surveyStage c kind upsets g s).supervisor.alarms.floor = s.supervisor.alarms.floor ∧
      (surveyStage c kind upsets g s).supervisor.alarms.ilimit = s.supervisor.alarms.ilimit ∧
      (surveyStage c kind upsets g s).supervisor.alarms.vlimit = s.supervisor.alarms.vlimit ∧
      (surveyStage c kind upsets g s).supervisor.alarms.noself = s.supervisor.alarms.noself ∧
      (surveyStage c kind upsets g s).supervisor.alarms.stage = s.supervisor.alarms.stage ∧
      (surveyStage c kind upsets g s).supervisor.alarms.supply = s.supervisor.alarms.supply ∧
      (surveyStage c kind upsets g s).supervisor.alarms.capdrop =
        s.supervisor.alarms.capdrop := by
  simp [surveyStage, surveyBoundary, surveyRead, readForSurvey, applyStage, applyBoundary,
    applyRead, readForRegulation, tableStage, tableBoundary, readStage, readAll]

/-- The correlator once the self lane has done its work: the reads can only close lanes. -/
theorem surveyStage_correlator (c : Settings) (kind : BoundaryKind) (upsets : BoundaryUpsets)
    (g : CycleEdge) (s : State) :
    ∃ lanes, (surveyStage c kind upsets g s).correlator =
      { selfAtBoundary c s.correlator with lanes := lanes } := by
  obtain ⟨hg, hvalid, hreversed, -⟩ :=
    selfAtBoundary_congr (c := c) (k := (readStage upsets s).correlator) (k' := s.correlator)
      (by simp [readStage, readAll]) (by simp [readStage, readAll]) (by simp [readStage, readAll])
      (by simp [readStage, readAll]) (by simp [readStage, readAll])
  refine ⟨(surveyStage c kind upsets g s).correlator.lanes, ?_⟩
  rw [Correlator.mk.injEq]
  simp [surveyStage, surveyBoundary, surveyRead, readForSurvey, applyStage, applyBoundary,
    applyRead, readForRegulation, tableStage, tableBoundary, hg, hvalid, hreversed]
  simp [readStage, readAll]

/-- Regulation before the supervisor: the step applied, the mean closed, the survey adjustment made. -/
theorem surveyStage_regulation (c : Settings) (kind : BoundaryKind) (upsets : BoundaryUpsets)
    (g : CycleEdge) (s : State) :
    (surveyStage c kind upsets g s).regulation =
      adjustForSurvey c (surveyRequest s.survey (surveyStage c kind upsets g s).survey)
        (closeMean (applyStep kind (neighbourSteps (applyRead c upsets g s).table.slots)
          s.regulation)) := by
  simp [surveyStage, surveyBoundary, surveyRead, readForSurvey, applyStage, applyBoundary,
    applyRead, readForRegulation, tableStage, tableBoundary]

theorem surveyStage_survey (c : Settings) (kind : BoundaryKind) (upsets : BoundaryUpsets)
    (g : CycleEdge) (s : State) :
    (surveyStage c kind upsets g s).survey =
      s.survey.boundary (surveyFrames (surveyRead c kind upsets g s).table.slots) := by
  simp [surveyStage, surveyBoundary, surveyRead, readForSurvey, applyStage, applyBoundary,
    applyRead, readForRegulation, tableStage, tableBoundary]

theorem surveyStage_agreement (c : Settings) (kind : BoundaryKind) (upsets : BoundaryUpsets)
    (g : CycleEdge) (s : State) :
    (surveyStage c kind upsets g s).agreement =
      leaveSolitary (tableStage c upsets g s).table.slots s.agreement := by
  simp [surveyStage, surveyBoundary, surveyRead, readForSurvey, applyStage, applyBoundary,
    applyRead, readForRegulation, tableStage, tableBoundary]

@[simp] theorem surveyStage_table (c : Settings) (kind : BoundaryKind) (upsets : BoundaryUpsets)
    (g : CycleEdge) (s : State) :
    (surveyStage c kind upsets g s).table = (surveyRead c kind upsets g s).table ∧
      (surveyStage c kind upsets g s).frames = (surveyRead c kind upsets g s).frames := by
  simp [surveyStage, surveyBoundary]

/-- The state the supervisor derives the condition in. -/
def settledState (c : Settings) (kind : BoundaryKind) (upsets : BoundaryUpsets) (g : CycleEdge)
    (s : State) : State :=
  ((surveyStage c kind upsets g s).setSupervisor (settledFacts c kind upsets g s)).setAgreement
    (takeSolitary (s.supervisor.condition = .acquiring) (settledFacts c kind upsets g s).solitary
      (surveyStage c kind upsets g s).agreement)

theorem superviseStage_eq (c : Settings) (kind : BoundaryKind) (upsets : BoundaryUpsets)
    (g : CycleEdge) (s : State) :
    superviseStage c kind upsets g s = derive (settledState c kind upsets g s) := by
  have hcondition : s.supervisor.condition = (surveyStage c kind upsets g s).supervisor.condition := by
    simp
  unfold settledState
  rw [hcondition]
  rfl

@[simp] theorem settledState_fields (c : Settings) (kind : BoundaryKind) (upsets : BoundaryUpsets)
    (g : CycleEdge) (s : State) :
    (settledState c kind upsets g s).held = s.held ∧
      (settledState c kind upsets g s).load = s.load ∧
      (settledState c kind upsets g s).lines = s.lines ∧
      (settledState c kind upsets g s).bus = s.bus ∧
      (settledState c kind upsets g s).wire = s.wire ∧
      (settledState c kind upsets g s).config = s.config ∧
      (settledState c kind upsets g s).timer = s.timer ∧
      (settledState c kind upsets g s).keying = s.keying ∧
      (settledState c kind upsets g s).front = s.front ∧
      (settledState c kind upsets g s).correlator =
        (surveyStage c kind upsets g s).correlator ∧
      (settledState c kind upsets g s).table = (surveyRead c kind upsets g s).table ∧
      (settledState c kind upsets g s).frames = (surveyRead c kind upsets g s).frames ∧
      (settledState c kind upsets g s).regulation =
        (surveyStage c kind upsets g s).regulation ∧
      (settledState c kind upsets g s).survey = (surveyStage c kind upsets g s).survey ∧
      (settledState c kind upsets g s).capture = s.capture ∧
      (settledState c kind upsets g s).supervisor = settledFacts c kind upsets g s ∧
      (settledState c kind upsets g s).service = s.service ∧
      (settledState c kind upsets g s).pins = s.pins ∧
      (settledState c kind upsets g s).edge = s.edge ∧
      (settledState c kind upsets g s).freeCount = s.freeCount ∧
      (settledState c kind upsets g s).pending = s.pending := by
  simp [settledState]

/-- The facts the boundary settles, one by one (R157, R158, R160, R161). -/
@[simp] theorem settledFacts_fields (c : Settings) (kind : BoundaryKind) (upsets : BoundaryUpsets)
    (g : CycleEdge) (s : State) :
    (settledFacts c kind upsets g s).condition = s.supervisor.condition ∧
      (settledFacts c kind upsets g s).faultCause =
        s.supervisor.faultCause.or
          (if reversedCause c s.correlator then some .reversed else none) ∧
      (settledFacts c kind upsets g s).hold =
        (match s.supervisor.pendingHold with
         | some .hold => true
         | some .free => false
         | none => s.supervisor.hold) ∧
      (settledFacts c kind upsets g s).pendingHold = none ∧
      (settledFacts c kind upsets g s).mains = s.supervisor.mains ∧
      (settledFacts c kind upsets g s).warn = s.supervisor.warn ∧
      (settledFacts c kind upsets g s).brownout = s.supervisor.brownout ∧
      (settledFacts c kind upsets g s).lowRun = s.supervisor.lowRun ∧
      (settledFacts c kind upsets g s).highRun = s.supervisor.highRun ∧
      (settledFacts c kind upsets g s).lastAligned = alignedHanded c kind upsets g s ∧
      (settledFacts c kind upsets g s).surveyRunning =
        decide ((surveyStage c kind upsets g s).survey.phaseNow = .running) ∧
      (settledFacts c kind upsets g s).alarms =
        (surveyStage c kind upsets g s).supervisor.alarms := by
  simp [settledFacts, settleFacts] <;> rfl

/-- The solitary count and the working mark as the boundary settles them: only in ACQUIRING do they move (R157, R158). -/
theorem settledFacts_solitary (c : Settings) (kind : BoundaryKind) (upsets : BoundaryUpsets)
    (g : CycleEdge) (s : State) :
    (settledFacts c kind upsets g s).solitary =
        (if s.supervisor.condition = .acquiring then
          solitaryAfter (surveyRead c kind upsets g s).table.slots s.supervisor.solitary
         else s.supervisor.solitary) ∧
      (settledFacts c kind upsets g s).working =
        (s.supervisor.working ||
          (decide (s.supervisor.condition = .acquiring) &&
            (decide ((settledFacts c kind upsets g s).solitary = 16) ||
              alignedQualifies (leaveSolitary (tableStage c upsets g s).table.slots
                s.agreement).lock s.supervisor.lastAligned (alignedHanded c kind upsets g s)))) := by
  simp [settledFacts, settleFacts, surveyStage_agreement]

@[simp] theorem superviseStage_keying_stage (c : Settings) (kind : BoundaryKind)
    (upsets : BoundaryUpsets) (g : CycleEdge) (s : State) :
    (superviseStage c kind upsets g s).keying.stage = s.keying.stage := by
  simp [superviseStage_eq, derive, setCondition_keying]

@[simp] theorem planRead_cycleCount (c : Settings) (kind : BoundaryKind) (upsets : BoundaryUpsets)
    (g : CycleEdge) (s : State) :
    (planRead c kind upsets g s).frames.cycleCount = s.frames.cycleCount := by
  simp [planRead, readForRegulation, superviseStage_eq, surveyRead, readForSurvey, applyStage,
    applyBoundary, applyRead, tableStage, tableBoundary]

/-- Regulation's plan for the new frame (R116 to R129). -/
def plannedRegulation (c : Settings) (kind : BoundaryKind) (upsets : BoundaryUpsets) (g : CycleEdge)
    (s : State) : Regulation :=
  planStage c (conditionOf s.config.isSome (settledFacts c kind upsets g s) = .regulating)
    (selfAtBoundary c s.correlator).gSelf (selfAtBoundary c s.correlator).gSelfValid
    s.keying.voltageLimit (appliedStep kind s.regulation)
    (planNeighbours (planRead c kind upsets g s).table.slots)
    (surveyStage c kind upsets g s).regulation

theorem plannedStage_eq (c : Settings) (kind : BoundaryKind) (upsets : BoundaryUpsets)
    (g : CycleEdge) (s : State) :
    plannedStage c kind upsets g s =
      ((planRead c kind upsets g s).setRegulation (plannedRegulation c kind upsets g s)).latch
        (latchCauses (plannedRegulation c kind upsets g s)) := by
  obtain ⟨lanes, hcorrelator⟩ := surveyStage_correlator c kind upsets g s
  have hself : (planRead c kind upsets g s).correlator.gSelf = (selfAtBoundary c s.correlator).gSelf ∧
      (planRead c kind upsets g s).correlator.gSelfValid =
        (selfAtBoundary c s.correlator).gSelfValid := by
    simp [planRead, readForRegulation, superviseStage_eq, derive, setCondition_correlator, hcorrelator]
  have hkeying : (planRead c kind upsets g s).keying.voltageLimit = s.keying.voltageLimit := by
    simp [planRead, readForRegulation, superviseStage_eq, derive, setCondition_keying]
  have hregulation : (planRead c kind upsets g s).regulation =
      (surveyStage c kind upsets g s).regulation := by
    simp [planRead, readForRegulation, superviseStage_eq]
  have hcondition : (planRead c kind upsets g s).supervisor.condition =
      conditionOf s.config.isSome (settledFacts c kind upsets g s) := by
    simp [planRead, readForRegulation, superviseStage_eq]
  unfold plannedStage planBoundary plannedRegulation
  rw [hself.1, hself.2, hkeying, hregulation, hcondition]

/-! ### The end of the boundary -/

/-- The state once every block has done its boundary work and the cycle that starts there has its bit and its lanes
(R10, R34, R52, R70). -/
def boundaryEnd (c : Settings) (kind : BoundaryKind) (upsets : BoundaryUpsets) (g : CycleEdge)
    (s : State) : State :=
  takeBit (bindLanes (readAll (upsetEntries upsets.started
    (boundaryWork c kind upsets (boundaryEdge c g s) (boundaryStart c g s)))))

theorem takeBoundary_eq (c : Settings) (kind : BoundaryKind) (upsets : BoundaryUpsets)
    {g : CycleEdge} {s : State} (hedge : s.edge = some g) (hb : g.boundary = some kind) :
    takeBoundary c kind upsets g s =
      derive (takeWarn g.warnDue
        ((boundaryEnd c kind upsets g s).setEdge
          (some
            { g with
              boundary := none, dwellDue := g.dwellDue && s.correlator.waiting, offer := none,
              warnDue := none }))) := by
  unfold takeBoundary
  rw [takeDwellEnd_at_boundary c hedge (by simp [hb])]
  rfl

theorem exec_frameBoundary {c : Settings} {g : CycleEdge} {kind : BoundaryKind}
    (upsets : BoundaryUpsets) {s : State} (hheld : s.held = false) (hconfig : s.config = some c)
    (hedge : s.edge = some g) (hb : g.boundary = some kind) :
    exec (.frameBoundary upsets) s = .next (drive (takeBoundary c kind upsets g s)) := by
  simp [exec, execFrameBoundary, hheld, hconfig, hedge, hb]

end Sys2Proof.Machine
end

section
/-! PROOFS. The device once a boundary is taken, part by part; then the supply events, the load's ends and the service
line. -/

namespace Sys2Proof.Machine

/-! ### A derivation at the start of a cycle, and one after a warn test -/

/-- At the instant a cycle starts the keyed mark follows the condition through a derivation (R14). -/
theorem derive_keyed_at_start {s : State} (hphase : s.timer.phase = 0) (hedge : s.edge.isSome = true)
    (hkeyed : s.keying.keyed = s.supervisor.condition.output) :
    (derive s).keying.keyed = (derive s).supervisor.condition.output := by
  rw [derive_condition, derive, setCondition_keying]
  split
  · rename_i heq
    rw [heq]
    exact hkeyed
  · simp [keyedAfter, hphase, hedge]

/-- Only HOLDING and REGULATING are told apart by the warn flag (R152). -/
theorem conditionOf_warn (loaded : Bool) (u v : Supervisor) (hf : u.faultCause = v.faultCause)
    (hb : u.brownout = v.brownout) (hm : u.mains = v.mains) (hw : u.working = v.working)
    (hs : u.surveyRunning = v.surveyRunning) :
    conditionOf loaded u = conditionOf loaded v ∨
      (conditionOf loaded u = .regulating ∨ conditionOf loaded u = .holding) ∧
        (conditionOf loaded v = .regulating ∨ conditionOf loaded v = .holding) := by
  unfold conditionOf
  rw [hf, hb, hm, hw, hs]
  split_ifs <;> simp

/-- A change between conditions that sample leaves the front end, no window being open (R28). -/
theorem setCondition_front_of_samples {x : Condition} {s : State}
    (hs : s.supervisor.condition.samples = true) (hx : x.samples = true)
    (hwindow : s.timer.window ≠ .opened) : (setCondition x s).front = s.front := by
  rw [setCondition_front]
  split
  · rfl
  · simp [hx, hwindow]

theorem derive_front_of_samples {s : State} (hs : s.supervisor.condition.samples = true)
    (hx : (conditionOf s.config.isSome s.supervisor).samples = true)
    (hwindow : s.timer.window ≠ .opened) : (derive s).front = s.front :=
  setCondition_front_of_samples hs hx hwindow

theorem derive_timer_of_not_opened {s : State} (hwindow : s.timer.window ≠ .opened) :
    (derive s).timer = s.timer := by
  rw [derive, setCondition_timer_eq]
  simp [hwindow]

/-! ### The stages after the supervisor -/

@[simp] theorem plannedStage_fields (c : Settings) (kind : BoundaryKind) (upsets : BoundaryUpsets)
    (g : CycleEdge) (s : State) :
    (plannedStage c kind upsets g s).held = s.held ∧
      (plannedStage c kind upsets g s).load = s.load ∧
      (plannedStage c kind upsets g s).lines = s.lines ∧
      (plannedStage c kind upsets g s).bus = s.bus ∧
      (plannedStage c kind upsets g s).wire = s.wire ∧
      (plannedStage c kind upsets g s).config = s.config ∧
      (plannedStage c kind upsets g s).timer = (superviseStage c kind upsets g s).timer ∧
      (plannedStage c kind upsets g s).keying = (superviseStage c kind upsets g s).keying ∧
      (plannedStage c kind upsets g s).front = (superviseStage c kind upsets g s).front ∧
      (plannedStage c kind upsets g s).table = (planRead c kind upsets g s).table ∧
      (plannedStage c kind upsets g s).frames = (planRead c kind upsets g s).frames ∧
      (plannedStage c kind upsets g s).agreement =
        takeSolitary (s.supervisor.condition = .acquiring)
          (settledFacts c kind upsets g s).solitary
          (leaveSolitary (tableStage c upsets g s).table.slots s.agreement) ∧
      (plannedStage c kind upsets g s).regulation = plannedRegulation c kind upsets g s ∧
      (plannedStage c kind upsets g s).survey = (surveyStage c kind upsets g s).survey ∧
      (plannedStage c kind upsets g s).capture = s.capture ∧
      (plannedStage c kind upsets g s).service = s.service ∧
      (plannedStage c kind upsets g s).pins = s.pins ∧
      (plannedStage c kind upsets g s).edge = s.edge ∧
      (plannedStage c kind upsets g s).freeCount = s.freeCount ∧
      (plannedStage c kind upsets g s).pending = s.pending ∧
      (plannedStage c kind upsets g s).frames.cycleCount = s.frames.cycleCount ∧
      (plannedStage c kind upsets g s).keying.stage = s.keying.stage := by
  simp only [plannedStage_eq, State.latch_fields, State.setRegulation_fields]
  simp [planRead, readForRegulation, superviseStage_eq, surveyRead, readForSurvey, applyStage,
    applyBoundary, applyRead, tableStage, tableBoundary, settledState, surveyStage_agreement]
  simp [derive, setCondition_keying]

/-- The supervisor's facts through the plan: what the boundary settled, and the alarms of regulation's causes. -/
@[simp] theorem plannedStage_facts (c : Settings) (kind : BoundaryKind) (upsets : BoundaryUpsets)
    (g : CycleEdge) (s : State) :
    (plannedStage c kind upsets g s).supervisor.condition =
        conditionOf s.config.isSome (settledFacts c kind upsets g s) ∧
      (plannedStage c kind upsets g s).supervisor.faultCause =
        (settledFacts c kind upsets g s).faultCause ∧
      (plannedStage c kind upsets g s).supervisor.working =
        (settledFacts c kind upsets g s).working ∧
      (plannedStage c kind upsets g s).supervisor.hold =
        (settledFacts c kind upsets g s).hold ∧
      (plannedStage c kind upsets g s).supervisor.pendingHold = none ∧
      (plannedStage c kind upsets g s).supervisor.mains = s.supervisor.mains ∧
      (plannedStage c kind upsets g s).supervisor.warn = s.supervisor.warn ∧
      (plannedStage c kind upsets g s).supervisor.brownout = s.supervisor.brownout ∧
      (plannedStage c kind upsets g s).supervisor.lowRun = s.supervisor.lowRun ∧
      (plannedStage c kind upsets g s).supervisor.highRun = s.supervisor.highRun ∧
      (plannedStage c kind upsets g s).supervisor.solitary =
        (if conditionOf s.config.isSome (settledFacts c kind upsets g s) ≠
            s.supervisor.condition ∧
            conditionOf s.config.isSome (settledFacts c kind upsets g s) = .acquiring then 0
         else (settledFacts c kind upsets g s).solitary) ∧
      (plannedStage c kind upsets g s).supervisor.lastAligned = alignedHanded c kind upsets g s ∧
      (plannedStage c kind upsets g s).supervisor.surveyRunning =
        decide ((surveyStage c kind upsets g s).survey.phaseNow = .running) ∧
      (plannedStage c kind upsets g s).supervisor.alarms.floor =
        (s.supervisor.alarms.floor || (plannedRegulation c kind upsets g s).floor) ∧
      (plannedStage c kind upsets g s).supervisor.alarms.ilimit =
        (s.supervisor.alarms.ilimit || (plannedRegulation c kind upsets g s).ilimit) ∧
      (plannedStage c kind upsets g s).supervisor.alarms.vlimit =
        (s.supervisor.alarms.vlimit || (plannedRegulation c kind upsets g s).vlimit) ∧
      (plannedStage c kind upsets g s).supervisor.alarms.noself =
        (s.supervisor.alarms.noself || (plannedRegulation c kind upsets g s).noself) ∧
      (plannedStage c kind upsets g s).supervisor.alarms.stage = s.supervisor.alarms.stage ∧
      (plannedStage c kind upsets g s).supervisor.alarms.supply = s.supervisor.alarms.supply ∧
      (plannedStage c kind upsets g s).supervisor.alarms.capdrop =
        s.supervisor.alarms.capdrop ∧
      (plannedStage c kind upsets g s).supervisor.alarms.table =
        (planRead c kind upsets g s).supervisor.alarms.table := by
  simp only [plannedStage_eq, State.latch_fields, State.setRegulation_fields, latchCauses]
  simp [planRead, readForRegulation, superviseStage_eq, derive_supervisor]

/-- The frame unit's boundary work touches the own frame and, at a forced boundary, the entries (R88, R93). -/
@[simp] theorem frameBoundary_fields (kind : BoundaryKind) (s : State) :
    (frameBoundary kind s).held = s.held ∧ (frameBoundary kind s).load = s.load ∧
      (frameBoundary kind s).lines = s.lines ∧ (frameBoundary kind s).bus = s.bus ∧
      (frameBoundary kind s).wire = s.wire ∧ (frameBoundary kind s).config = s.config ∧
      (frameBoundary kind s).timer = s.timer ∧ (frameBoundary kind s).keying = s.keying ∧
      (frameBoundary kind s).front = s.front ∧
      (frameBoundary kind s).frames.ownFrame = some (nextFrame s) ∧
      (frameBoundary kind s).frames.cycleCount = s.frames.cycleCount ∧
      (frameBoundary kind s).agreement = s.agreement ∧
      (frameBoundary kind s).regulation = s.regulation ∧
      (frameBoundary kind s).survey = s.survey ∧ (frameBoundary kind s).capture = s.capture ∧
      (frameBoundary kind s).service = s.service ∧ (frameBoundary kind s).pins = s.pins ∧
      (frameBoundary kind s).edge = s.edge ∧ (frameBoundary kind s).freeCount = s.freeCount ∧
      (frameBoundary kind s).pending = s.pending := by
  cases kind <;> simp [frameBoundary, readAll]

theorem frameBoundary_facts (kind : BoundaryKind) (s : State) :
    ∃ lanes latched,
      (frameBoundary kind s).correlator = { s.correlator with lanes := lanes } ∧
        (frameBoundary kind s).supervisor =
          { s.supervisor with alarms := { s.supervisor.alarms with table := latched } } := by
  cases kind with
  | ordinary => exact ⟨s.correlator.lanes, s.supervisor.alarms.table, rfl, rfl⟩
  | forced =>
    obtain ⟨table, lanes, watches, latched, h⟩ := checkParity_eq (fun _ _ => true)
      (s.setFrames { s.frames with ownFrame := some (nextFrame s) })
    exact ⟨lanes, latched, by simp [frameBoundary, readAll, h], by simp [frameBoundary, readAll, h]⟩

/-! ### The boundary taken -/

/-- The state a boundary leaves before its pins are driven. -/
def takenState (c : Settings) (kind : BoundaryKind) (upsets : BoundaryUpsets) (g : CycleEdge)
    (s : State) : State :=
  derive (takeWarn g.warnDue
    ((boundaryEnd c kind upsets g s).setEdge
      (some
        { g with
          boundary := none, dwellDue := g.dwellDue && s.correlator.waiting, offer := none,
          warnDue := none })))

theorem exec_frameBoundary_taken {c : Settings} {g : CycleEdge} {kind : BoundaryKind}
    (upsets : BoundaryUpsets) {s : State} (hheld : s.held = false) (hconfig : s.config = some c)
    (hedge : s.edge = some g) (hb : g.boundary = some kind) :
    exec (.frameBoundary upsets) s = .next (drive (takenState c kind upsets g s)) := by
  rw [exec_frameBoundary upsets hheld hconfig hedge hb, takeBoundary_eq c kind upsets hedge hb]
  rfl

section Taken
variable (c : Settings) (kind : BoundaryKind) (upsets : BoundaryUpsets) (g : CycleEdge) (s : State)

/-- The facts a boundary settles, its dwell end taken first. -/
def boundaryFacts : Supervisor :=
  settledFacts c kind upsets (boundaryEdge c g s) (boundaryStart c g s)

/-- The condition a boundary settles for the new frame (R161). -/
def boundaryCondition : Condition :=
  conditionOf s.config.isSome (boundaryFacts c kind upsets g s)

/-- The survey record a boundary leaves (R135). -/
def boundarySurvey : Survey :=
  (surveyStage c kind upsets (boundaryEdge c g s) (boundaryStart c g s)).survey

/-- Regulation as a boundary leaves it (R111). -/
def boundaryRegulation : Regulation :=
  plannedRegulation c kind upsets (boundaryEdge c g s) (boundaryStart c g s)

/-- The state a boundary leaves once all but its cycle start and a warn test are done. -/
def boundaryWorked : State :=
  plannedStage c kind upsets (boundaryEdge c g s) (boundaryStart c g s)

theorem boundaryEnd_eq :
    boundaryEnd c kind upsets g s =
      takeBit (bindLanes (readAll (upsetEntries upsets.started
        (frameBoundary kind (boundaryWorked c kind upsets g s))))) := by
  rw [boundaryEnd, boundaryWork_eq]
  rfl

/-- The own frame a boundary builds (R93, R94). -/
def boundaryFrame : List Bool := nextFrame (boundaryWorked c kind upsets g s)

theorem boundaryFrame_eq :
    boundaryFrame c kind upsets g s =
      buildFrame (boundaryCondition c kind upsets g s) (boundaryRegulation c kind upsets g s).staged
        (boundarySurvey c kind upsets g s)
        ((boundaryRegulation c kind upsets g s).floor ||
          (boundaryRegulation c kind upsets g s).ilimit ||
          (boundaryRegulation c kind upsets g s).vlimit)
        ((boundaryRegulation c kind upsets g s).noself || s.keying.stage) := by
  simp [boundaryFrame, nextFrame, boundaryWorked, boundaryCondition, boundaryRegulation,
    boundarySurvey, boundaryFacts]

@[simp] theorem takenState_fields :
    (takenState c kind upsets g s).held = s.held ∧
      (takenState c kind upsets g s).load = s.load ∧
      (takenState c kind upsets g s).lines = s.lines ∧
      (takenState c kind upsets g s).bus = s.bus ∧
      (takenState c kind upsets g s).wire = s.wire ∧
      (takenState c kind upsets g s).config = s.config ∧
      (takenState c kind upsets g s).table = (boundaryEnd c kind upsets g s).table ∧
      (takenState c kind upsets g s).frames = (boundaryEnd c kind upsets g s).frames ∧
      (takenState c kind upsets g s).frames.ownFrame = some (boundaryFrame c kind upsets g s) ∧
      (takenState c kind upsets g s).frames.cycleCount = s.frames.cycleCount ∧
      (takenState c kind upsets g s).agreement =
        takeSolitary (s.supervisor.condition = .acquiring)
          (boundaryFacts c kind upsets g s).solitary
          (leaveSolitary
            (tableStage c upsets (boundaryEdge c g s) (boundaryStart c g s)).table.slots
            s.agreement) ∧
      (takenState c kind upsets g s).regulation = boundaryRegulation c kind upsets g s ∧
      (takenState c kind upsets g s).survey = boundarySurvey c kind upsets g s ∧
      (takenState c kind upsets g s).capture = s.capture ∧
      (takenState c kind upsets g s).service = s.service ∧
      (takenState c kind upsets g s).pins = s.pins ∧
      (takenState c kind upsets g s).edge =
        some
          { g with
            boundary := none, dwellDue := g.dwellDue && s.correlator.waiting, offer := none,
            warnDue := none } ∧
      (takenState c kind upsets g s).freeCount = s.freeCount ∧
      (takenState c kind upsets g s).pending = s.pending ∧
      (takenState c kind upsets g s).timer.phase = s.timer.phase ∧
      (takenState c kind upsets g s).timer.length = s.timer.length ∧
      (takenState c kind upsets g s).timer.position = s.timer.position := by
  simp only [takenState, derive_fields, takeWarn_fields, State.setEdge_fields, derive_timer_kept]
  simp [boundaryEnd_eq, takeBit, bindLanes, readAll, boundaryWorked, superviseStage_eq,
    boundaryFacts, boundaryRegulation, boundarySurvey, boundaryFrame]

/-- The supervisor's facts once a boundary is taken. -/
@[simp] theorem takenState_facts :
    (takenState c kind upsets g s).supervisor.faultCause =
        (boundaryFacts c kind upsets g s).faultCause ∧
      (takenState c kind upsets g s).supervisor.working =
        (boundaryFacts c kind upsets g s).working ∧
      (takenState c kind upsets g s).supervisor.hold = (boundaryFacts c kind upsets g s).hold ∧
      (takenState c kind upsets g s).supervisor.pendingHold = none ∧
      (takenState c kind upsets g s).supervisor.mains = s.supervisor.mains ∧
      (takenState c kind upsets g s).supervisor.brownout = s.supervisor.brownout ∧
      (takenState c kind upsets g s).supervisor.lowRun = s.supervisor.lowRun ∧
      (takenState c kind upsets g s).supervisor.highRun = s.supervisor.highRun ∧
      (takenState c kind upsets g s).supervisor.lastAligned =
        alignedHanded c kind upsets (boundaryEdge c g s) (boundaryStart c g s) ∧
      (takenState c kind upsets g s).supervisor.surveyRunning =
        decide ((boundarySurvey c kind upsets g s).phaseNow = .running) ∧
      (takenState c kind upsets g s).supervisor.alarms.floor =
        (s.supervisor.alarms.floor || (boundaryRegulation c kind upsets g s).floor) ∧
      (takenState c kind upsets g s).supervisor.alarms.ilimit =
        (s.supervisor.alarms.ilimit || (boundaryRegulation c kind upsets g s).ilimit) ∧
      (takenState c kind upsets g s).supervisor.alarms.vlimit =
        (s.supervisor.alarms.vlimit || (boundaryRegulation c kind upsets g s).vlimit) ∧
      (takenState c kind upsets g s).supervisor.alarms.noself =
        (s.supervisor.alarms.noself || (boundaryRegulation c kind upsets g s).noself) ∧
      (takenState c kind upsets g s).supervisor.alarms.stage = s.supervisor.alarms.stage ∧
      (takenState c kind upsets g s).supervisor.alarms.capdrop = s.supervisor.alarms.capdrop ∧
      (takenState c kind upsets g s).supervisor.alarms.table =
        (readAll (upsetEntries upsets.started
          (frameBoundary kind (boundaryWorked c kind upsets g s)))).supervisor.alarms.table := by
  obtain ⟨lanes, latched, -, hfacts⟩ :=
    frameBoundary_facts kind (boundaryWorked c kind upsets g s)
  simp only [takenState, derive_facts, takeWarn_facts, State.setEdge_fields, boundaryEnd_eq,
    takeBit_fields, bindLanes_fields, readAll, checkParity_kept, upsetEntries_fields, hfacts]
  simp [boundaryWorked, boundaryFacts, boundaryRegulation, boundarySurvey]
  rfl

/-- The state a boundary's warn test finds. -/
theorem boundaryEnd_facts :
    (boundaryEnd c kind upsets g s).config = s.config ∧
      (boundaryEnd c kind upsets g s).supervisor.condition = boundaryCondition c kind upsets g s ∧
      (boundaryEnd c kind upsets g s).supervisor.warn = s.supervisor.warn ∧
      (boundaryEnd c kind upsets g s).supervisor.alarms.supply = s.supervisor.alarms.supply ∧
      (boundaryEnd c kind upsets g s).supervisor.solitary =
        (boundaryWorked c kind upsets g s).supervisor.solitary := by
  obtain ⟨lanes, latched, -, hfacts⟩ :=
    frameBoundary_facts kind (boundaryWorked c kind upsets g s)
  simp only [boundaryEnd_eq, takeBit_fields, bindLanes_fields, readAll, checkParity_kept,
    checkParity_fields, upsetEntries_fields, hfacts]
  simp [boundaryWorked, boundaryCondition, boundaryFacts]

/-- The condition a boundary leaves is the one its facts give, the warn test made (R152, R161). -/
theorem takenState_condition :
    (takenState c kind upsets g s).supervisor.condition =
      conditionOf s.config.isSome (takenState c kind upsets g s).supervisor := by
  have h := derive_agrees (takeWarn g.warnDue
    ((boundaryEnd c kind upsets g s).setEdge
      (some
        { g with
          boundary := none, dwellDue := g.dwellDue && s.correlator.waiting, offer := none,
          warnDue := none })))
  simpa [takenState, (boundaryEnd_facts c kind upsets g s).1] using h

/-- The condition settled at a boundary, read from the facts it leaves with the warn flag held before it. -/
theorem boundaryCondition_eq :
    boundaryCondition c kind upsets g s =
      conditionOf s.config.isSome
        { (takenState c kind upsets g s).supervisor with warn := s.supervisor.warn } := by
  apply conditionOf_congr <;> simp [boundaryFacts, boundarySurvey]
  rfl

/-- Without a warn test of its own a boundary leaves the condition it settled. -/
theorem takenState_condition_of_no_warn (h : g.warnDue = none) :
    (takenState c kind upsets g s).supervisor.condition = boundaryCondition c kind upsets g s ∧
      (takenState c kind upsets g s).supervisor.warn = s.supervisor.warn ∧
      (takenState c kind upsets g s).supervisor.alarms.supply = s.supervisor.alarms.supply := by
  have hwarn : (takenState c kind upsets g s).supervisor.warn = s.supervisor.warn := by
    simp [takenState, h, boundaryEnd_facts c kind upsets g s]
  refine ⟨?_, hwarn, by simp [takenState, h, boundaryEnd_facts c kind upsets g s]⟩
  rw [takenState_condition, boundaryCondition_eq, ← hwarn]

/-- A warn test can only tell HOLDING from REGULATING. -/
theorem boundaryCondition_or :
    (takenState c kind upsets g s).supervisor.condition = boundaryCondition c kind upsets g s ∨
      ((takenState c kind upsets g s).supervisor.condition = .regulating ∨
          (takenState c kind upsets g s).supervisor.condition = .holding) ∧
        (boundaryCondition c kind upsets g s = .regulating ∨
          boundaryCondition c kind upsets g s = .holding) := by
  rw [takenState_condition, boundaryCondition_eq]
  exact conditionOf_warn _ _ _ rfl rfl rfl rfl rfl

end Taken

end Sys2Proof.Machine
end

section
/-! PROOFS. The service line's operations, and what a command can do to the device at all: one case for each kind of
event. The invariants are then one case analysis each. -/

namespace Sys2Proof.Machine

/-! ### The service line (R170 to R178) -/

/-- The device after an event of the service line: requests left pending, alarms cleared, capture records drained. -/
def served (request : Option HoldRequest) (alarms : Alarms) (origination : Option (SurveyKind × Nat))
    (n : Nat) (service : Service) (s : State) : State :=
  { s with
    supervisor := { s.supervisor with pendingHold := request, alarms := alarms }
    survey := { s.survey with origination := origination }
    capture := { s.capture with records := s.capture.records.drop n }
    service := service }

theorem served_service (service : Service) (s : State) :
    served s.supervisor.pendingHold s.supervisor.alarms s.survey.origination 0 service s =
      s.setService service := rfl

@[simp] theorem clearLine_fields (s : State) :
    (clearLine s).held = s.held ∧ (clearLine s).load = s.load ∧ (clearLine s).lines = s.lines ∧
      (clearLine s).bus = s.bus ∧ (clearLine s).wire = s.wire ∧ (clearLine s).config = s.config ∧
      (clearLine s).timer = s.timer ∧ (clearLine s).keying = s.keying ∧
      (clearLine s).front = s.front ∧ (clearLine s).correlator = s.correlator ∧
      (clearLine s).table = s.table ∧ (clearLine s).frames = s.frames ∧
      (clearLine s).agreement = s.agreement ∧ (clearLine s).regulation = s.regulation ∧
      (clearLine s).survey = s.survey ∧ (clearLine s).capture = s.capture ∧
      (clearLine s).supervisor = s.supervisor ∧ (clearLine s).pins = s.pins ∧
      (clearLine s).edge = s.edge ∧ (clearLine s).freeCount = s.freeCount ∧
      (clearLine s).pending = s.pending ∧
      (clearLine s).service =
        { s.service with buffer := [], overlong := false, badCharacter := false } := by
  simp [clearLine]

theorem accept_served (k : ServiceCommand) (s : State) :
    ∃ request alarms origination n service,
      accept k s = served request alarms origination n service s := by
  cases k with
  | status => exact ⟨_, _, _, 0, _, (served_service _ s).symm⟩
  | table => exact ⟨_, _, _, 0, _, (served_service _ s).symm⟩
  | capt n => exact ⟨s.supervisor.pendingHold, s.supervisor.alarms, s.survey.origination, n, _, rfl⟩
  | hold => exact ⟨some .hold, s.supervisor.alarms, s.survey.origination, 0, _, rfl⟩
  | free => exact ⟨some .free, s.supervisor.alarms, s.survey.origination, 0, _, rfl⟩
  | survey kind count =>
    exact ⟨s.supervisor.pendingHold, s.supervisor.alarms, some (kind, count), 0, _, rfl⟩
  | clear => exact ⟨s.supervisor.pendingHold, _, s.survey.origination, 0, _, rfl⟩
  | restart => exact ⟨_, _, _, 0, _, (served_service _ s).symm⟩

theorem runCommand_served (k : ServiceCommand) (s : State) :
    ∃ request alarms origination n service,
      runCommand k s = served request alarms origination n service s := by
  unfold runCommand
  split
  · exact ⟨_, _, _, 0, _, (served_service _ s).symm⟩
  · split
    · exact ⟨_, _, _, 0, _, (served_service _ s).symm⟩
    · exact accept_served k s

/-- A line cleared first makes no difference to what is left of the rest of the device. -/
theorem runCommand_clearLine_served (k : ServiceCommand) (s : State) :
    ∃ request alarms origination n service,
      runCommand k (clearLine s) = served request alarms origination n service s := by
  obtain ⟨request, alarms, origination, n, service, h⟩ := runCommand_served k (clearLine s)
  exact ⟨request, alarms, origination, n, service, h⟩

theorem completeLine_served (s : State) :
    ∃ request alarms origination n service,
      completeLine s = served request alarms origination n service s := by
  unfold completeLine
  dsimp only
  split
  · exact ⟨_, _, _, 0, _, (served_service _ s).symm⟩
  · split
    · exact ⟨_, _, _, 0, _, (served_service _ s).symm⟩
    · split
      · exact ⟨_, _, _, 0, _, (served_service _ s).symm⟩
      · split
        · exact runCommand_clearLine_served _ s
        · exact ⟨_, _, _, 0, _, (served_service _ s).symm⟩

theorem takeCharacter_served (byte : Byte) (stop : Bool) (s : State) :
    ∃ request alarms origination n service,
      takeCharacter byte stop s = served request alarms origination n service s := by
  unfold takeCharacter
  split
  · exact ⟨_, _, _, 0, _, (served_service _ s).symm⟩
  · split
    · exact completeLine_served s
    · split
      · exact ⟨_, _, _, 0, _, (served_service s.service s).symm⟩
      · exact ⟨_, _, _, 0, _, (served_service _ s).symm⟩

/-- A read of the slots of a TABLE reply: the entries read and what their removal touches, and the reply (R71, R176). -/
theorem readSlots_eq (lines : List Text) (sent : Nat) (slots : List Nat) (s : State) :
    ∃ table lanes watches latched service, readSlots lines sent slots s =
      { s with
        table := table
        correlator := { s.correlator with lanes := lanes }
        frames := { s.frames with watches := watches }
        supervisor :=
          { s.supervisor with alarms := { s.supervisor.alarms with table := latched } }
        service := service } := by
  induction slots generalizing s with
  | nil =>
    exact ⟨s.table, s.correlator.lanes, s.frames.watches, s.supervisor.alarms.table, _, rfl⟩
  | cons slot rest ih =>
    obtain ⟨table, lanes, watches, latched, h⟩ := checkParity_eq (fun k _ => decide (k = slot)) s
    unfold readSlots
    dsimp only
    split
    · exact ⟨table, lanes, watches, latched, _, by rw [h]; rfl⟩
    · obtain ⟨table', lanes', watches', latched', service', h'⟩ :=
        ih (checkParity (fun k _ => decide (k = slot)) s)
      rw [h', h]
      exact ⟨table', lanes', watches', latched', service', rfl⟩

/-! ### The supply events (R164, R165) -/

/-- What a BROWNOUT entry makes of the device before the condition is derived (R164, R165). -/
def brownoutEntered (s : State) : State :=
  if s.supervisor.faultCause.isSome then
    passWarn (useMean (s.setSupervisor (enterBrownout s.supervisor)))
  else blocksEnterBrownout (passWarn (useMean (s.setSupervisor (enterBrownout s.supervisor))))

/-- What a BROWNOUT exit makes of the device before the condition is derived (R81, R165). -/
def brownoutLeft (s : State) : State :=
  if s.supervisor.faultCause.isSome then
    useMean (s.setSupervisor { s.supervisor with brownout := false, lowRun := 0, highRun := 0 })
  else
    (useMean (s.setSupervisor
      { s.supervisor with brownout := false, lowRun := 0, highRun := 0 })).setAgreement
        { s.agreement with relock := 8 }

@[simp] theorem brownoutEntered_fields (s : State) :
    (brownoutEntered s).held = s.held ∧ (brownoutEntered s).load = s.load ∧
      (brownoutEntered s).lines = s.lines ∧ (brownoutEntered s).bus = s.bus ∧
      (brownoutEntered s).wire = s.wire ∧ (brownoutEntered s).config = s.config ∧
      (brownoutEntered s).timer = s.timer ∧ (brownoutEntered s).keying = s.keying ∧
      (brownoutEntered s).front = s.front ∧ (brownoutEntered s).table = s.table ∧
      (brownoutEntered s).frames = s.frames ∧
      (brownoutEntered s).regulation = s.regulation ∧
      (brownoutEntered s).survey = s.survey ∧ (brownoutEntered s).capture = s.capture ∧
      (brownoutEntered s).supervisor = enterBrownout s.supervisor ∧
      (brownoutEntered s).service = s.service ∧ (brownoutEntered s).pins = s.pins ∧
      (brownoutEntered s).edge = s.edge.map (fun g => { g with meanS := none, warnDue := none }) ∧
      (brownoutEntered s).freeCount = s.freeCount ∧
      (brownoutEntered s).pending = s.pending ∧
      (brownoutEntered s).correlator =
        (if s.supervisor.faultCause.isSome then s.correlator
         else
          { s.correlator with
            xpSelf := none, residual := none, waiting := true, dwellSum := 0, dwellCount := 0 }) ∧
      (brownoutEntered s).agreement =
        (if s.supervisor.faultCause.isSome then s.agreement
         else { s.agreement with lock := .unlocked, acquisition := 0, loss := 0 }) := by
  unfold brownoutEntered
  split <;> simp [passWarn, useMean, blocksEnterBrownout, Function.comp_def]

@[simp] theorem brownoutLeft_fields (s : State) :
    (brownoutLeft s).held = s.held ∧ (brownoutLeft s).load = s.load ∧
      (brownoutLeft s).lines = s.lines ∧ (brownoutLeft s).bus = s.bus ∧
      (brownoutLeft s).wire = s.wire ∧ (brownoutLeft s).config = s.config ∧
      (brownoutLeft s).timer = s.timer ∧ (brownoutLeft s).keying = s.keying ∧
      (brownoutLeft s).front = s.front ∧ (brownoutLeft s).correlator = s.correlator ∧
      (brownoutLeft s).table = s.table ∧ (brownoutLeft s).frames = s.frames ∧
      (brownoutLeft s).regulation = s.regulation ∧
      (brownoutLeft s).survey = s.survey ∧ (brownoutLeft s).capture = s.capture ∧
      (brownoutLeft s).supervisor =
        { s.supervisor with brownout := false, lowRun := 0, highRun := 0 } ∧
      (brownoutLeft s).service = s.service ∧ (brownoutLeft s).pins = s.pins ∧
      (brownoutLeft s).edge = s.edge.map (fun g => { g with meanS := none }) ∧
      (brownoutLeft s).freeCount = s.freeCount ∧
      (brownoutLeft s).pending = s.pending ∧
      (brownoutLeft s).agreement =
        (if s.supervisor.faultCause.isSome then s.agreement
         else { s.agreement with relock := 8 }) := by
  unfold brownoutLeft
  split <;> simp [useMean]

theorem exec_brownoutEntry {s : State} (h : brownoutEntryDue s = true) :
    exec .brownoutEntry s = .next (drive (derive (brownoutEntered s))) := by
  have hfault : (passWarn (useMean (s.setSupervisor (enterBrownout s.supervisor)))).supervisor.faultCause =
      s.supervisor.faultCause := by simp [passWarn, useMean, enterBrownout]
  simp only [exec, execBrownoutEntry, h, if_true, hfault]
  rfl

theorem exec_brownoutExit {s : State} (h : brownoutExitDue s = true) :
    exec .brownoutExit s = .next (drive (derive (brownoutLeft s))) := by
  simp only [exec, execBrownoutExit, h, if_true]
  rfl

/-! ### What a command can do -/

/-- A unit of the millisecond in progress that has been reached: no time passes. -/
theorem runToUnit_zero (s : State) : runToUnit 0 s = s :=
  runTo_of_le ((Nat.min_le_right _ _).trans (Nat.mul_div_le s.timer.phase 20))

/-- What a command can make of the state, one case for each kind of event. -/
inductive Move : Instr → State → State → Prop
  | stays {x : Instr} {s : State} : Move x s s
  | reset {s : State} (n : Nat) : Move (.fullReset n) s (fullReset n s)
  | resetEnd {s : State} (held : s.held = true) : Move .resetEnd s (resetEnded s)
  | restart {s : State} : Move .deviceRestart s (restarted s)
  | reads {x : Instr} {s : State} (waits : s.load = .waiting) :
      Move x s { s with load := .reading, lines := .transfer }
  | fails {x : Instr} {s : State} (lines : I2cLines) (bus : List BusAction) (unit : Nat)
      (loads : s.load = .waiting ∨ s.load = .reading) :
      Move x s (loadFailed lines bus (runToUnit unit s))
  | accepts {x : Instr} {s : State} (image : List Byte) (unit : Nat) (loads : s.load = .reading)
      (accepted : imageAccepted image = true) :
      Move x s (loadAccepted (settingsOf image) (runToUnit unit s))
  | sample {x : Instr} {s : State} (p i v sup : Int) (free : s.held = false)
      (within : 20 * (s.ms + 1) ≤ s.timer.length) : Move x s (endMs p i v sup s)
  | spanEnds {x : Instr} {s : State} (free : s.held = false) (before : s.timer.phase ≤ 19200) :
      Move x s (drive (endSpan (runTo 19200 s)))
  | windowDecided {x : Instr} {s : State} (free : s.held = false) (before : s.timer.phase ≤ 19400) :
      Move x s (drive ((runTo 19400 s).setTimer
        { (runTo 19400 s).timer with
          window := if windowOpens (runTo 19400 s) then .opened else .absent }))
  | windowEnds {x : Instr} {s : State} (c : Settings) (configured : s.config = some c)
      (free : s.held = false) (before : s.timer.phase ≤ windowEnd c) :
      Move x s (drive (captureAtWindowEnd ((runTo (windowEnd c) s).setTimer
        { (runTo (windowEnd c) s).timer with window := .full })))
  | cycleEnds {x : Instr} {s : State} (inputs : CycleInputs) (free : s.held = false) :
      Move x s (drive (endCycle inputs (runTo s.timer.length s)))
  | boundary {x : Instr} {s : State} (c : Settings) (kind : BoundaryKind) (upsets : BoundaryUpsets)
      (g : CycleEdge) (free : s.held = false) (configured : s.config = some c)
      (edge : s.edge = some g) (due : g.boundary = some kind) :
      Move x s (drive (takenState c kind upsets g s))
  | bareBoundary {x : Instr} {s : State} (g : CycleEdge) (free : s.held = false)
      (unconfigured : s.config = none) (edge : s.edge = some g) :
      Move x s (drive (takeBareBoundary g s))
  | dwellEnds {x : Instr} {s : State} (c : Settings) (g : CycleEdge) (free : s.held = false)
      (configured : s.config = some c) (edge : s.edge = some g) : Move x s (takeDwellEnd c g s)
  | mains {x : Instr} {s : State} (present : Bool) (unit : Nat) :
      Move x s (drive (takeMains present (if s.held then s else runToUnit unit s)))
  | enters {x : Instr} {s : State} (due : brownoutEntryDue s = true) :
      Move x s (drive (derive (brownoutEntered s)))
  | leaves {x : Instr} {s : State} (due : brownoutExitDue s = true) :
      Move x s (drive (derive (brownoutLeft s)))
  | serves {x : Instr} {s : State} (request : Option HoldRequest) (alarms : Alarms)
      (origination : Option (SurveyKind × Nat)) (n : Nat) (service : Service)
      (ready : serviceReady s = true) :
      Move x s (drive (served request alarms origination n service s))
  | readsLine {x : Instr} {s : State} (lines : List Text) (sent : Nat) (slots struck : List Nat)
      (free : s.held = false) : Move x s (drive (readSlots lines sent slots (upsetEntries struck s)))
  | repliesEnd {x : Instr} {s : State} (wire : Text) (free : s.held = false) :
      Move x s (drive ((s.setWire wire).setService { s.service with reply := none }))

theorem commandEvent_move (x : Instr) (k : ServiceCommand) (s : State) :
    Move x s (commandEvent k s) := by
  unfold commandEvent
  split
  · obtain ⟨request, alarms, origination, n, service, h⟩ := runCommand_clearLine_served k s
    rw [h]
    exact .serves request alarms origination n service ‹_›
  · exact .stays

theorem windowEnd_move (x : Instr) (s t : State) (h : execOffWindowEnd s = .next t) : Move x s t := by
  unfold execOffWindowEnd at h
  injection h with h
  subst h
  split
  · split
    · rename_i c hc hguard
      simp only [Bool.and_eq_true, Bool.not_eq_true', decide_eq_true_eq] at hguard
      exact .windowEnds c hc hguard.1.1 hguard.2
    · exact .stays
  · exact .stays

theorem frameBoundary_move (x : Instr) (upsets : BoundaryUpsets) (s t : State)
    (h : execFrameBoundary s upsets = .next t) : Move x s t := by
  unfold execFrameBoundary at h
  injection h with h
  subst h
  split
  · rename_i g hedge
    split
    · rename_i kind c hb hc
      split
      · exact .stays
      · rename_i hheld
        rw [takeBoundary_eq c kind upsets hedge hb]
        exact .boundary c kind upsets g (by simpa using hheld) hc hedge hb
    · rename_i hc
      split
      · exact .stays
      · rename_i hheld
        exact .bareBoundary g (by simpa using hheld) hc hedge
    · exact .stays
  · exact .stays

theorem dwellEnd_move (x : Instr) (s t : State) (h : execDwellEnd s = .next t) : Move x s t := by
  unfold execDwellEnd at h
  injection h with h
  subst h
  split
  · rename_i c g hc hedge
    split
    · exact .stays
    · rename_i hheld
      exact .dwellEnds c g (by simpa using hheld) hc hedge
  · exact .stays

theorem lineRead_move (x : Instr) (upset : List Nat) (s t : State)
    (h : execTableLineRead s upset = .next t) : Move x s t := by
  unfold execTableLineRead at h
  injection h with h
  subst h
  split
  · exact .readsLine _ _ _ upset ‹_›
  · exact .stays

theorem replyEnd_move (x : Instr) (s t : State) (h : execReplyEnd s = .next t) : Move x s t := by
  unfold execReplyEnd at h
  injection h with h
  subst h
  split
  · exact .repliesEnd _ ‹_›
  · exact .stays

/-- Every command does one of these things. -/
theorem exec_move {x : Instr} {s t : State} (h : exec x s = .next t) : Move x s t := by
  cases x with
  | fullReset n =>
    injection h with h
    exact h ▸ .reset n
  | resetEnd =>
    injection h with h
    subst h
    split
    · exact .resetEnd ‹_›
    · exact .stays
  | configLoadStart =>
    injection h with h
    subst h
    split
    · exact .reads ‹_›
    · exact .stays
  | configLoadEnd image unit =>
    injection h with h
    subst h
    dsimp only
    split
    · split
      · exact .accepts image unit ‹_› ‹_›
      · exact .fails .stopped imageTransfer unit (.inr ‹_›)
    · exact .stays
  | loadNack byte =>
    injection h with h
    subst h
    split
    · simpa only [runToUnit_zero] using
        Move.fails (x := .loadNack byte) .stopped (nackedTransfer byte) 0 (.inr ‹_›)
    · exact .stays
  | loadBusConflict sent =>
    injection h with h
    subst h
    split
    · simpa only [runToUnit_zero] using
        Move.fails (x := .loadBusConflict sent) .released (imageTransfer.take sent) 0 (.inr ‹_›)
    · exact .stays
  | loadTimeout sent =>
    injection h with h
    subst h
    split
    · simpa only [runToUnit_zero] using
        Move.fails (x := .loadTimeout sent) .released [] 0 (.inl ‹_›)
    · split
      · simpa only [runToUnit_zero] using
          Move.fails (x := .loadTimeout sent) .released (imageTransfer.take sent) 0 (.inr ‹_›)
      · exact .stays
  | sample p i v sup =>
    injection h with h
    subst h
    split
    · rename_i hguard
      simp only [Bool.and_eq_true, Bool.not_eq_true', decide_eq_true_eq] at hguard
      exact .sample p i v sup hguard.1 hguard.2
    · exact .stays
  | keyingSpanEnd =>
    injection h with h
    subst h
    split
    · rename_i hguard
      simp only [Bool.and_eq_true, Bool.not_eq_true', decide_eq_true_eq] at hguard
      exact .spanEnds hguard.1 hguard.2
    · exact .stays
  | offWindowDecision =>
    injection h with h
    subst h
    dsimp only
    split
    · rename_i hguard
      simp only [Bool.and_eq_true, Bool.not_eq_true', decide_eq_true_eq] at hguard
      exact .windowDecided hguard.1.1 hguard.1.2
    · exact .stays
  | offWindowEnd => exact windowEnd_move _ s t h
  | cycleEnd inputs =>
    cases hheld : s.held with
    | true =>
      simp only [exec, execCycleEnd, hheld, if_true, Host.Outcome.next.injEq] at h
      exact h ▸ .stays
    | false =>
      rw [exec_cycleEnd inputs hheld, Host.Outcome.next.injEq] at h
      exact h ▸ .cycleEnds inputs hheld
  | frameBoundary upsets => exact frameBoundary_move _ upsets s t h
  | dwellEnd => exact dwellEnd_move _ s t h
  | mainsChange present unit =>
    injection h with h
    exact h ▸ .mains present unit
  | brownoutEntry =>
    cases hdue : brownoutEntryDue s with
    | true =>
      rw [exec_brownoutEntry hdue, Host.Outcome.next.injEq] at h
      exact h ▸ .enters hdue
    | false =>
      simp only [exec, execBrownoutEntry, hdue, Bool.false_eq_true, if_false,
        Host.Outcome.next.injEq] at h
      exact h ▸ .stays
  | brownoutExit =>
    cases hdue : brownoutExitDue s with
    | true =>
      rw [exec_brownoutExit hdue, Host.Outcome.next.injEq] at h
      exact h ▸ .leaves hdue
    | false =>
      simp only [exec, execBrownoutExit, hdue, Bool.false_eq_true, if_false,
        Host.Outcome.next.injEq] at h
      exact h ▸ .stays
  | characterReceived byte stop =>
    injection h with h
    subst h
    split
    · obtain ⟨request, alarms, origination, n, service, h⟩ := takeCharacter_served byte stop s
      rw [h]
      exact .serves request alarms origination n service ‹_›
    · exact .stays
  | status => injection h with h; exact h ▸ commandEvent_move _ .status s
  | table => injection h with h; exact h ▸ commandEvent_move _ .table s
  | tableLineRead upset => exact lineRead_move _ upset s t h
  | capt n => injection h with h; exact h ▸ commandEvent_move _ (.capt n) s
  | hold => injection h with h; exact h ▸ commandEvent_move _ .hold s
  | free => injection h with h; exact h ▸ commandEvent_move _ .free s
  | survey kind count => injection h with h; exact h ▸ commandEvent_move _ (.survey kind count) s
  | clear => injection h with h; exact h ▸ commandEvent_move _ .clear s
  | restart => injection h with h; exact h ▸ commandEvent_move _ .restart s
  | replyEnd => exact replyEnd_move _ s t h
  | deviceRestart =>
    injection h with h
    subst h
    split
    · exact .restart
    · exact .stays

/-- Every command answers a next state. -/
theorem exec_next (x : Instr) (s : State) : ∃ t, exec x s = .next t := by
  cases x <;> exact ⟨_, rfl⟩

end Sys2Proof.Machine
end

section
/-! PROOFS. The queue, the commands off their occasion, and the invariants that every step keeps. -/

namespace Sys2Proof.Machine
open Sys2Proof.Safety

/-! ### Operations taken whole -/

/-- A dwell end touches the table, the correlator and the record of the cycle end alone. -/
theorem takeDwellEnd_eq (c : Settings) (g : CycleEdge) (s : State) :
    ∃ table correlator edge, takeDwellEnd c g s =
      { s with table := table, correlator := correlator, edge := edge } ∧
      (edge = s.edge ∨ ∃ g', edge = some g') := by
  unfold takeDwellEnd
  dsimp only
  split
  · exact ⟨s.table, s.correlator, s.edge, rfl, .inl rfl⟩
  · split
    · exact ⟨s.table, _, _, rfl, .inr ⟨_, rfl⟩⟩
    · exact ⟨_, _, _, rfl, .inr ⟨_, rfl⟩⟩

/-- The slots after a dwell end: as they were, or with an offer taken. -/
theorem takeDwellEnd_slots (c : Settings) (g : CycleEdge) (s : State) :
    (takeDwellEnd c g s).table.slots = s.table.slots ∨
      ∃ code figure, (takeDwellEnd c g s).table.slots =
        admitOffer c.ownCode code figure s.table.slots := by
  unfold takeDwellEnd
  dsimp only
  split
  · exact .inl rfl
  · split
    · exact .inl rfl
    · cases dwellOffer c s with
      | none => exact .inl rfl
      | some offer => exact .inr ⟨_, _, rfl⟩

/-- A boundary without a configuration touches what the supervisor's facts touch. -/
theorem takeBareBoundary_eq (g : CycleEdge) (s : State) :
    ∃ u agreement, takeBareBoundary g s =
      (derive ((s.setSupervisor u).setAgreement agreement)).setEdge (some { g with boundary := none }) ∧
        u.condition = s.supervisor.condition ∧ u.faultCause = s.supervisor.faultCause ∨
      takeBareBoundary g s = s.setEdge (some { g with boundary := none }) := by
  by_cases h : s.load = .ended
  · refine ⟨settleFacts false s.table.slots s.agreement.lock [] (s.survey.phaseNow = .running)
      s.supervisor, takeSolitary (s.supervisor.condition = .acquiring)
      (settleFacts false s.table.slots s.agreement.lock [] (s.survey.phaseNow = .running)
        s.supervisor).solitary s.agreement, .inl ⟨?_, rfl, by simp [settleFacts]⟩⟩
    rw [takeBareBoundary, if_pos h]
    rfl
  · exact ⟨s.supervisor, s.agreement, .inr (by rw [takeBareBoundary, if_neg h])⟩

@[simp] theorem takeBareBoundary_fields (g : CycleEdge) (s : State) :
    (takeBareBoundary g s).held = s.held ∧ (takeBareBoundary g s).load = s.load ∧
      (takeBareBoundary g s).config = s.config ∧
      (takeBareBoundary g s).table = s.table ∧
      (takeBareBoundary g s).regulation = s.regulation ∧
      (takeBareBoundary g s).survey = s.survey ∧
      (takeBareBoundary g s).capture = s.capture ∧
      (takeBareBoundary g s).edge = some { g with boundary := none } ∧
      (takeBareBoundary g s).pending = s.pending ∧
      (takeBareBoundary g s).timer.phase = s.timer.phase ∧
      (takeBareBoundary g s).timer.length = s.timer.length ∧
      (takeBareBoundary g s).timer.position = s.timer.position ∧
      (takeBareBoundary g s).supervisor.faultCause = s.supervisor.faultCause := by
  obtain ⟨u, agreement, ⟨h, -, hfault⟩ | h⟩ := takeBareBoundary_eq g s <;> simp_all

@[simp] theorem loadFailed_fields (lines : I2cLines) (bus : List BusAction) (s : State) :
    (loadFailed lines bus s).held = s.held ∧ (loadFailed lines bus s).load = .ended ∧
      (loadFailed lines bus s).lines = lines ∧ (loadFailed lines bus s).bus = bus ∧
      (loadFailed lines bus s).config = s.config ∧ (loadFailed lines bus s).table = s.table ∧
      (loadFailed lines bus s).regulation = s.regulation ∧
      (loadFailed lines bus s).survey = s.survey ∧
      (loadFailed lines bus s).capture = s.capture ∧
      (loadFailed lines bus s).edge = s.edge ∧ (loadFailed lines bus s).pending = s.pending ∧
      (loadFailed lines bus s).timer.phase = s.timer.phase ∧
      (loadFailed lines bus s).timer.length = s.timer.length ∧
      (loadFailed lines bus s).timer.position = s.timer.position ∧
      (loadFailed lines bus s).supervisor.faultCause =
        s.supervisor.faultCause.or (some .config) := by
  simp [loadFailed]

@[simp] theorem loadAccepted_fields (c : Settings) (s : State) :
    (loadAccepted c s).held = s.held ∧ (loadAccepted c s).load = .ended ∧
      (loadAccepted c s).lines = .stopped ∧ (loadAccepted c s).bus = imageTransfer ∧
      (loadAccepted c s).config = some c ∧ (loadAccepted c s).table = s.table ∧
      (loadAccepted c s).regulation =
        { State.reset.regulation with setCurrent := some c.iStart } ∧
      (loadAccepted c s).survey = State.reset.survey ∧
      (loadAccepted c s).capture = s.capture ∧
      (loadAccepted c s).edge = s.edge ∧ (loadAccepted c s).pending = s.pending ∧
      (loadAccepted c s).timer.phase = s.timer.phase ∧
      (loadAccepted c s).timer.length = s.timer.length ∧
      (loadAccepted c s).timer.position = s.timer.position ∧
      (loadAccepted c s).supervisor.faultCause = s.supervisor.faultCause := by
  simp [loadAccepted]

@[simp] theorem takeMains_fields (present : Bool) (s : State) :
    (takeMains present s).held = s.held ∧ (takeMains present s).load = s.load ∧
      (takeMains present s).lines = s.lines ∧ (takeMains present s).bus = s.bus ∧
      (takeMains present s).wire = s.wire ∧
      (takeMains present s).config = s.config ∧ (takeMains present s).table = s.table ∧
      (takeMains present s).frames = s.frames ∧
      (takeMains present s).agreement = s.agreement ∧
      (takeMains present s).regulation = s.regulation ∧
      (takeMains present s).survey = s.survey ∧ (takeMains present s).capture = s.capture ∧
      (takeMains present s).service = s.service ∧ (takeMains present s).pins = s.pins ∧
      (takeMains present s).edge = s.edge ∧ (takeMains present s).freeCount = s.freeCount ∧
      (takeMains present s).pending = s.pending ∧
      (takeMains present s).timer.phase = s.timer.phase ∧
      (takeMains present s).timer.length = s.timer.length ∧
      (takeMains present s).timer.position = s.timer.position ∧
      (takeMains present s).supervisor.faultCause = s.supervisor.faultCause := by
  simp [takeMains]

theorem runToUnit_eq (unit : Nat) (s : State) : ∃ t ≤ s.timer.length, runToUnit unit s = runTo t s :=
  ⟨_, Nat.min_le_left _ _, rfl⟩

@[simp] theorem runToUnit_fields (unit : Nat) (s : State) :
    (runToUnit unit s).held = s.held ∧ (runToUnit unit s).load = s.load ∧
      (runToUnit unit s).lines = s.lines ∧ (runToUnit unit s).bus = s.bus ∧
      (runToUnit unit s).wire = s.wire ∧ (runToUnit unit s).config = s.config ∧
      (runToUnit unit s).correlator = s.correlator ∧ (runToUnit unit s).table = s.table ∧
      (runToUnit unit s).frames = s.frames ∧ (runToUnit unit s).agreement = s.agreement ∧
      (runToUnit unit s).regulation = s.regulation ∧ (runToUnit unit s).survey = s.survey ∧
      (runToUnit unit s).capture = s.capture ∧
      (runToUnit unit s).supervisor = s.supervisor ∧ (runToUnit unit s).service = s.service ∧
      (runToUnit unit s).pins = s.pins ∧ (runToUnit unit s).freeCount = s.freeCount ∧
      (runToUnit unit s).pending = s.pending ∧
      (runToUnit unit s).timer.length = s.timer.length ∧
      (runToUnit unit s).timer.position = s.timer.position ∧
      (runToUnit unit s).timer.window = s.timer.window := by
  simp [runToUnit]

@[simp] theorem readSlots_fields (lines : List Text) (sent : Nat) (slots : List Nat) (s : State) :
    (readSlots lines sent slots s).held = s.held ∧
      (readSlots lines sent slots s).load = s.load ∧
      (readSlots lines sent slots s).config = s.config ∧
      (readSlots lines sent slots s).timer = s.timer ∧
      (readSlots lines sent slots s).regulation = s.regulation ∧
      (readSlots lines sent slots s).survey = s.survey ∧
      (readSlots lines sent slots s).capture = s.capture ∧
      (readSlots lines sent slots s).edge = s.edge ∧
      (readSlots lines sent slots s).pending = s.pending := by
  obtain ⟨table, lanes, watches, latched, service, h⟩ := readSlots_eq lines sent slots s
  simp [h]

/-- A capture at a window end leaves all but the store and the CAPDROP latch. -/
@[simp] theorem captureAtWindowEnd_fields (s : State) :
    (captureAtWindowEnd s).held = s.held ∧ (captureAtWindowEnd s).load = s.load ∧
      (captureAtWindowEnd s).config = s.config ∧ (captureAtWindowEnd s).timer = s.timer ∧
      (captureAtWindowEnd s).table = s.table ∧
      (captureAtWindowEnd s).regulation = s.regulation ∧
      (captureAtWindowEnd s).survey = s.survey ∧ (captureAtWindowEnd s).edge = s.edge ∧
      (captureAtWindowEnd s).pending = s.pending ∧
      (captureAtWindowEnd s).supervisor.faultCause = s.supervisor.faultCause := by
  obtain ⟨capture, latched, h⟩ := captureAtWindowEnd_eq s
  simp [h]

@[simp] theorem endCycle_fields (inputs : CycleInputs) (s : State) :
    (endCycle inputs s).held = s.held ∧ (endCycle inputs s).load = s.load ∧
      (endCycle inputs s).config = s.config ∧
      (endCycle inputs s).survey = s.survey ∧ (endCycle inputs s).capture = s.capture ∧
      (endCycle inputs s).pending = s.pending ∧
      (endCycle inputs s).supervisor.faultCause = s.supervisor.faultCause := by
  cases h : s.config with
  | none =>
    rw [endCycle_of_none h]
    simp [h, startedTable, readAll, settledCycle]
  | some c =>
    rw [endCycle_of_some h]
    simp [h, startedTable, readAll, settledCycle]

/-! ### The queue (log 5) -/

theorem Move.pending_eq {x : Instr} {s t : State} (h : Move x s t) : t.pending = s.pending := by
  cases h with
  | stays => rfl
  | reset n => simp
  | resetEnd => simp [resetEnded]
  | restart => simp [restarted, resetEnded]
  | reads => rfl
  | fails => simp
  | accepts => simp
  | sample => simp
  | spanEnds => simp
  | windowDecided => simp
  | windowEnds => simp
  | cycleEnds => simp
  | boundary => simp
  | bareBoundary => simp
  | dwellEnds c g =>
    obtain ⟨table, correlator, edge, h, -⟩ := takeDwellEnd_eq c g s
    rw [h]
  | mains => split <;> simp
  | enters => simp
  | leaves => simp
  | serves => rfl
  | readsLine => simp
  | repliesEnd => simp

end Sys2Proof.Machine
end

section
/-! PROOFS. The invariants, move by move. -/

namespace Sys2Proof.Machine
open Sys2Proof.Safety

/-! ### The condition, the window and the pins -/

/-- The condition is the one the facts give, and no window is open without output. -/
def FactsAgree (s : State) : Prop :=
  s.supervisor.condition = conditionOf s.config.isSome s.supervisor ∧
    (s.timer.window = .opened → s.supervisor.condition.output = true)

theorem stationOk_iff (s : State) : StationOk s ↔ FactsAgree s ∧ s.pins = pinsNow s :=
  and_assoc.symm

theorem stationOk_drive {s : State} (h : FactsAgree s) : StationOk (drive s) :=
  (stationOk_iff _).mpr ⟨by simpa [FactsAgree] using h, rfl⟩

/-- A derivation makes condition and window agree with the facts, where the window agreed before. -/
theorem factsAgree_derive {s : State}
    (h : s.timer.window = .opened → s.supervisor.condition.output = true) :
    FactsAgree (derive s) := by
  refine ⟨derive_agrees s, fun hw => ?_⟩
  rw [derive, setCondition_timer_eq] at hw
  rw [derive_condition]
  dsimp only at hw
  split at hw
  · exact absurd hw (by simp)
  · rename_i hcut
    by_cases hx : conditionOf s.config.isSome s.supervisor = s.supervisor.condition
    · rw [hx]
      exact h hw
    · simpa [hx, hw] using hcut

theorem factsAgree_of_eq {s t : State} (h : FactsAgree s)
    (hconfig : t.config.isSome = s.config.isSome) (hwindow : t.timer.window = s.timer.window)
    (hcondition : t.supervisor.condition = s.supervisor.condition)
    (hfacts : conditionOf s.config.isSome t.supervisor = conditionOf s.config.isSome s.supervisor) :
    FactsAgree t := by
  obtain ⟨hagrees, houtput⟩ := h
  exact ⟨by rw [hcondition, hconfig, hfacts, hagrees], by rw [hwindow, hcondition]; exact houtput⟩

theorem factsAgree_closeCycle (inputs : CycleInputs) (s0 : State) (heard : Heard) (e : Option Int)
    (s : State) : FactsAgree (closeCycle inputs s0 heard e s) := by
  refine ⟨?_, by simp⟩
  have hagrees := derive_agrees (takeWarn
    (if (warnLeftAt inputs s0 heard).isSome then none else supplyMean s0.front) s)
  rw [closeCycle_supervisor]
  simp only [closeCycle_fields, startedTable, readAll, checkParity_kept, upsetEntries_fields,
    settledCycle]
  rw [hagrees]
  simp only [derive_fields, takeWarn_fields]
  apply conditionOf_congr <;> simp

theorem factsAgree_endCycle (inputs : CycleInputs) (s : State) : FactsAgree (endCycle inputs s) := by
  cases h : s.config with
  | none =>
    rw [endCycle_of_none h]
    exact factsAgree_closeCycle ..
  | some c =>
    rw [endCycle_of_some h]
    exact factsAgree_closeCycle ..

theorem factsAgree_superviseStage (c : Settings) (kind : BoundaryKind) (upsets : BoundaryUpsets)
    (g : CycleEdge) {s : State} (h : FactsAgree s) :
    FactsAgree (superviseStage c kind upsets g s) := by
  rw [superviseStage_eq]
  exact factsAgree_derive (by simpa using h.2)

/-- The window and the condition as a boundary's work leaves them, before its warn test. -/
theorem boundaryEnd_window (c : Settings) (kind : BoundaryKind) (upsets : BoundaryUpsets)
    (g : CycleEdge) (s : State) :
    (boundaryEnd c kind upsets g s).timer =
        (superviseStage c kind upsets (boundaryEdge c g s) (boundaryStart c g s)).timer ∧
      (boundaryEnd c kind upsets g s).supervisor.condition =
        (superviseStage c kind upsets (boundaryEdge c g s)
          (boundaryStart c g s)).supervisor.condition := by
  constructor
  · simp [boundaryEnd_eq, readAll, boundaryWorked]
  · rw [(boundaryEnd_facts c kind upsets g s).2.1]
    simp [boundaryCondition, boundaryFacts, superviseStage_eq]

theorem factsAgree_takenState (c : Settings) (kind : BoundaryKind) (upsets : BoundaryUpsets)
    (g : CycleEdge) {s : State} (h : FactsAgree s) : FactsAgree (takenState c kind upsets g s) := by
  refine factsAgree_derive ?_
  obtain ⟨htimer, hcondition⟩ := boundaryEnd_window c kind upsets g s
  have hstage := factsAgree_superviseStage c kind upsets (boundaryEdge c g s)
    (s := boundaryStart c g s) (by simpa [FactsAgree] using h)
  simp only [takeWarn_fields, takeWarn_facts, State.setEdge_fields, htimer, hcondition]
  exact hstage.2

theorem factsAgree_takeBareBoundary (g : CycleEdge) {s : State} (h : FactsAgree s) :
    FactsAgree (takeBareBoundary g s) := by
  obtain ⟨u, agreement, ⟨heq, hcondition, -⟩ | heq⟩ := takeBareBoundary_eq g s
  · have hderived : FactsAgree (derive ((s.setSupervisor u).setAgreement agreement)) :=
      factsAgree_derive (by simpa [hcondition] using h.2)
    rw [heq]
    simpa [FactsAgree] using hderived
  · rw [heq]
    simpa [FactsAgree] using h

theorem Move.stationOk {x : Instr} {s t : State} (h : Move x s t) (hs : StationOk s) :
    StationOk t := by
  obtain ⟨hfacts, hpins⟩ := (stationOk_iff s).mp hs
  cases h with
  | stays => exact hs
  | reset n => exact ⟨by simp [State.reset, conditionOf], by simp [State.reset], rfl⟩
  | resetEnd => exact ⟨by simp [resetEnded, State.reset, conditionOf], by simp [resetEnded, State.reset], rfl⟩
  | restart =>
    exact ⟨by simp [restarted, resetEnded, State.reset, conditionOf],
      by simp [restarted, resetEnded, State.reset], rfl⟩
  | reads => exact hs
  | fails =>
    rw [loadFailed]
    exact stationOk_drive (factsAgree_derive (by simpa using hfacts.2))
  | accepts =>
    rw [loadAccepted]
    exact stationOk_drive (factsAgree_derive (by simpa using hfacts.2))
  | sample p i v sup =>
    obtain ⟨low, high, hruns⟩ := endMs_supervisor_eq p i v sup s
    refine (stationOk_iff _).mpr ⟨factsAgree_of_eq hfacts ?_ ?_ ?_ ?_, rfl⟩ <;> simp [hruns]
    exact conditionOf_congr _ _ _ rfl rfl rfl rfl rfl rfl rfl
  | spanEnds =>
    exact stationOk_drive (by simpa [FactsAgree] using hfacts)
  | windowDecided =>
    refine stationOk_drive ⟨by simpa using hfacts.1, ?_⟩
    simp only [State.setTimer_fields]
    split
    · rename_i hopens
      unfold windowOpens at hopens
      simp_all
    · simp
  | windowEnds c =>
    obtain ⟨capture, latched, heq⟩ := captureAtWindowEnd_eq
      ((runTo (windowEnd c) s).setTimer { (runTo (windowEnd c) s).timer with window := .full })
    rw [heq]
    refine stationOk_drive ⟨?_, by simp⟩
    simp only [State.setTimer_fields, runTo_fields]
    exact hfacts.1.trans (conditionOf_congr _ _ _ rfl rfl rfl rfl rfl rfl rfl)
  | cycleEnds => exact stationOk_drive (factsAgree_endCycle ..)
  | boundary => exact stationOk_drive (factsAgree_takenState _ _ _ _ hfacts)
  | bareBoundary => exact stationOk_drive (factsAgree_takeBareBoundary _ hfacts)
  | dwellEnds c g =>
    obtain ⟨table, correlator, edge, heq, -⟩ := takeDwellEnd_eq c g s
    rw [heq]
    exact hs
  | mains =>
    refine stationOk_drive (factsAgree_derive ?_)
    split <;> simpa using hfacts.2
  | enters => exact stationOk_drive (factsAgree_derive (by simpa [enterBrownout] using hfacts.2))
  | leaves => exact stationOk_drive (factsAgree_derive (by simpa using hfacts.2))
  | serves =>
    refine stationOk_drive ⟨hfacts.1.trans ?_, hfacts.2⟩
    exact conditionOf_congr _ _ _ rfl rfl rfl rfl rfl rfl rfl
  | readsLine lines sent slots struck =>
    obtain ⟨table, lanes, watches, latched, service, heq⟩ :=
      readSlots_eq lines sent slots (upsetEntries struck s)
    rw [heq]
    refine stationOk_drive ⟨?_, by simpa using hfacts.2⟩
    simp only [upsetEntries_fields]
    exact hfacts.1.trans (conditionOf_congr _ _ _ rfl rfl rfl rfl rfl rfl rfl)
  | repliesEnd => exact stationOk_drive (by simpa [FactsAgree] using hfacts)

/-! ### The timer and the capture store -/

theorem clampInt_bounds {lo hi : Int} (x : Int) (h : lo ≤ hi) :
    lo ≤ clampInt lo hi x ∧ clampInt lo hi x ≤ hi := by
  unfold clampInt
  omega

theorem adjustmentOf_bounds (e : Option Int) : -40 ≤ adjustmentOf e ∧ adjustmentOf e ≤ 40 := by
  cases e with
  | none => simp [adjustmentOf]
  | some e => exact clampInt_bounds _ (by omega)

theorem nextPosition_lt (s : State) (heard : Heard) : nextPosition s heard < 32 := by
  unfold nextPosition
  split
  · omega
  · exact Nat.mod_lt _ (by omega)

theorem windowOf_le (code : Nat) : windowOf code ≤ 250 := by
  unfold windowOf
  match code with
  | 0 | 1 | 2 | 3 => simp
  | n + 4 => simp

theorem timerOk_runTo {t : Nat} {s : State} (h : TimerOk s) (ht : t ≤ s.timer.length) :
    TimerOk (runTo t s) := by
  obtain ⟨hphase, hlow, hhigh, hposition, hwindow, hedge⟩ := h
  refine ⟨?_, by simpa using hlow, by simpa using hhigh, by simpa using hposition,
    by simpa using hwindow, ?_⟩
  · simp only [runTo_phase, runTo_fields]
    omega
  · rw [runTo_edge, runTo_phase]
    split
    · rename_i hle
      rw [max_eq_left hle]
      exact hedge
    · simp

/-- What the timer's invariant reads. -/
theorem timerOk_of_eq {s t : State} (h : TimerOk s) (hphase : t.timer.phase = s.timer.phase)
    (hlength : t.timer.length = s.timer.length) (hposition : t.timer.position = s.timer.position)
    (hconfig : ∀ c, t.config = some c → c.windowLength ≤ 250)
    (hedge : t.edge.isSome = true → s.edge.isSome = true) : TimerOk t := by
  obtain ⟨hp, hlow, hhigh, hpos, -, hedge'⟩ := h
  rw [TimerOk, hphase, hlength, hposition]
  exact ⟨hp, hlow, hhigh, hpos, hconfig, fun he => hedge' (hedge he)⟩

theorem timerOk_closeCycle (inputs : CycleInputs) (s0 : State) (heard : Heard) (e : Option Int)
    {s : State} (hconfig : ∀ c, s.config = some c → c.windowLength ≤ 250) :
    TimerOk (closeCycle inputs s0 heard e s) := by
  have hadjust := adjustmentOf_bounds e
  refine ⟨by simp, ?_, ?_, by simpa using nextPosition_lt s0 heard, by simpa using hconfig,
    by simp⟩ <;> simp only [closeCycle_fields] <;> omega

theorem timerOk_endCycle (inputs : CycleInputs) {s : State} (h : TimerOk s) :
    TimerOk (endCycle inputs s) := by
  obtain ⟨-, -, -, -, hwindow, -⟩ := h
  cases hc : s.config with
  | none =>
    rw [endCycle_of_none hc]
    exact timerOk_closeCycle _ _ _ _ (by simpa using hwindow)
  | some c =>
    rw [endCycle_of_some hc]
    exact timerOk_closeCycle _ _ _ _ (by simpa using hwindow)

theorem Move.timerOk {x : Instr} {s t : State} (h : Move x s t) (hs : TimerOk s) : TimerOk t := by
  obtain ⟨hphase, hlow, hhigh, hposition, hwindow, hedge⟩ := id hs
  cases h with
  | stays => exact hs
  | reset => simp [TimerOk, State.reset]
  | resetEnd => simp [TimerOk, resetEnded, State.reset]
  | restart => simp [TimerOk, restarted, resetEnded, State.reset]
  | reads => exact hs
  | fails lines bus unit =>
    obtain ⟨n, hn, heq⟩ := runToUnit_eq unit s
    rw [heq]
    exact timerOk_of_eq (timerOk_runTo hs hn) (by simp) (by simp) (by simp)
      (by simpa using hwindow) (by simp)
  | accepts image unit =>
    obtain ⟨n, hn, heq⟩ := runToUnit_eq unit s
    rw [heq]
    refine timerOk_of_eq (timerOk_runTo hs hn) (by simp) (by simp) (by simp) ?_ (by simp)
    simp only [loadAccepted_fields, Option.some.injEq, forall_eq']
    exact windowOf_le _
  | sample p i v sup free within =>
    exact ⟨by simpa using within, by simpa using hlow, by simpa using hhigh, by simpa using hposition,
      by simpa using hwindow, by simp⟩
  | spanEnds =>
    exact timerOk_of_eq (timerOk_runTo hs (by omega : 19200 ≤ _)) (by simp) (by simp) (by simp)
      (by simpa using hwindow) (by simp)
  | windowDecided =>
    exact timerOk_of_eq (timerOk_runTo hs (by omega : 19400 ≤ _)) (by simp) (by simp) (by simp)
      (by simpa using hwindow) (by simp)
  | windowEnds c configured =>
    have hw := hwindow c configured
    have hend : windowEnd c ≤ s.timer.length := by
      unfold windowEnd
      omega
    exact timerOk_of_eq (timerOk_runTo hs hend) (by simp) (by simp) (by simp)
      (by simpa using hwindow) (by simp)
  | cycleEnds inputs =>
    have h' := timerOk_endCycle inputs (timerOk_runTo hs le_rfl)
    simpa [TimerOk] using h'
  | boundary c kind upsets g free configured edge =>
    exact timerOk_of_eq hs (by simp) (by simp) (by simp) (by simpa using hwindow) (by simp [edge])
  | bareBoundary g free unconfigured edge =>
    exact timerOk_of_eq hs (by simp) (by simp) (by simp) (by simpa using hwindow) (by simp [edge])
  | dwellEnds c g free configured edge =>
    obtain ⟨table, correlator, edge', heq, -⟩ := takeDwellEnd_eq c g s
    rw [heq]
    exact timerOk_of_eq hs rfl rfl rfl hwindow (by simp [edge])
  | mains present unit =>
    split
    · exact timerOk_of_eq hs (by simp) (by simp) (by simp) (by simpa using hwindow) (by simp)
    · obtain ⟨n, hn, heq⟩ := runToUnit_eq unit s
      rw [heq]
      exact timerOk_of_eq (timerOk_runTo hs hn) (by simp) (by simp) (by simp)
        (by simpa using hwindow) (by simp)
  | enters =>
    exact timerOk_of_eq hs (by simp) (by simp) (by simp) (by simpa using hwindow) (by simp)
  | leaves =>
    exact timerOk_of_eq hs (by simp) (by simp) (by simp) (by simpa using hwindow) (by simp)
  | serves => exact hs
  | readsLine =>
    exact timerOk_of_eq hs (by simp) (by simp) (by simp) (by simpa using hwindow) (by simp)
  | repliesEnd =>
    exact timerOk_of_eq hs (by simp) (by simp) (by simp) (by simpa using hwindow) (by simp)

/-- A capture at a window end keeps the store within its ranges: it is appended or dropped (R147, R148). -/
theorem captureOk_captureAtWindowEnd {s : State} (h : CaptureOk s) :
    CaptureOk (captureAtWindowEnd s) := by
  obtain ⟨hrecords, hnext, hdrops⟩ := id h
  have hmod := Nat.mod_lt (s.capture.nextSequence + 1) (show 65536 > 0 by omega)
  unfold captureAtWindowEnd
  split
  · split
    · unfold takeCapture
      dsimp only
      split
      · rename_i hroom
        unfold captureLimit at hroom
        exact ⟨by simp; omega, hmod, hdrops⟩
      · exact ⟨hrecords, hmod, Nat.min_le_left _ _⟩
    · exact h
  · exact h

theorem Move.captureOk {x : Instr} {s t : State} (h : Move x s t) (hs : CaptureOk s) :
    CaptureOk t := by
  have hkeep : t.capture = s.capture → CaptureOk t := fun heq => by
    rw [CaptureOk, heq]
    exact hs
  cases h with
  | stays => exact hs
  | reset => simp [CaptureOk, State.reset]
  | resetEnd => simp [CaptureOk, resetEnded, State.reset]
  | restart => exact hkeep rfl
  | reads => exact hs
  | fails => exact hkeep (by simp)
  | accepts => exact hkeep (by simp)
  | sample => exact hkeep (by simp)
  | spanEnds => exact hkeep (by simp)
  | windowDecided => exact hkeep (by simp)
  | windowEnds c =>
    exact captureOk_captureAtWindowEnd (s := (runTo (windowEnd c) s).setTimer _) (by simpa [CaptureOk] using hs)
  | cycleEnds => exact hkeep (by simp)
  | boundary => exact hkeep (by simp)
  | bareBoundary => exact hkeep (by simp)
  | dwellEnds c g =>
    obtain ⟨table, correlator, edge, heq, -⟩ := takeDwellEnd_eq c g s
    exact hkeep (by rw [heq])
  | mains => exact hkeep (by split <;> simp)
  | enters => exact hkeep (by simp)
  | leaves => exact hkeep (by simp)
  | serves request alarms origination n service =>
    obtain ⟨hrecords, hnext, hdrops⟩ := hs
    exact ⟨by simp [served]; omega, hnext, hdrops⟩
  | readsLine => exact hkeep (by simp)
  | repliesEnd => exact hkeep (by simp)

end Sys2Proof.Machine
end

section
/-! PROOFS. The table's and the set current's invariants, and the statements that a case analysis of the commands
settles. -/

namespace Sys2Proof.Machine
open Sys2Proof.Safety

/-! ### The table -/

/-- The table's form under a configuration, or before one (R56, R73). -/
def TableForm (config : Option Settings) (slots : List (Option Entry)) : Prop :=
  match config with
  | none => slots.length = 8 ∧ entriesOf slots = []
  | some c => SlotsOk c.ownCode slots

theorem tableOk_iff (s : State) : TableOk s ↔ TableForm s.config s.table.slots := Iff.rfl

theorem tableForm_mapSlots {config : Option Settings} {slots : List (Option Entry)}
    {f : Nat → Entry → Option Entry} (h : TableForm config slots)
    (hf : ∀ k e e', EntryOk e → f k e = some e' →
      e'.code = e.code ∧ e'.lane = e.lane ∧ EntryOk e') :
    TableForm config (mapSlots f slots) := by
  cases config with
  | none =>
    obtain ⟨hlength, hempty⟩ := h
    refine ⟨by simpa using hlength, List.eq_nil_iff_forall_not_mem.mpr fun e' he' => ?_⟩
    obtain ⟨k, e, hk, -⟩ := mem_entriesOf_mapSlots.mp he'
    simpa [hempty] using mem_entriesOf_of_getElem? hk
  | some c => exact slotsOk_mapSlots h hf

theorem tableForm_upsetEntries {struck : List Nat} {config : Option Settings} {s : State}
    (h : TableForm config s.table.slots) : TableForm config (upsetEntries struck s).table.slots := by
  rw [upsetEntries_slots]
  refine tableForm_mapSlots h fun k e e' hok he => ?_
  obtain rfl := Option.some.inj he
  simpa using entryOk_strike hok

theorem tableForm_checkParity {read : Nat → Entry → Bool} {config : Option Settings} {s : State}
    (h : TableForm config s.table.slots) : TableForm config (checkParity read s).table.slots := by
  rw [checkParity_slots]
  refine tableForm_mapSlots h fun k e e' hok he => ?_
  unfold passRead at he
  split at he
  · exact absurd he (by simp)
  · obtain rfl := Option.some.inj he
    exact ⟨rfl, rfl, hok⟩

@[simp] theorem slotOutcome_kept (c : Settings) (own : Condition) (r : CycleReport) (now : Nat)
    (watches : List (Option Nat)) (e : Entry) :
    (slotOutcome c own r now watches e).entry.code = e.code ∧
      (slotOutcome c own r now watches e).entry.state = e.state ∧
      (slotOutcome c own r now watches e).entry.lane = e.lane ∧
      (slotOutcome c own r now watches e).entry.g = e.g ∧
      (slotOutcome c own r now watches e).entry.gValid = e.gValid ∧
      (slotOutcome c own r now watches e).entry.age = e.age ∧
      (slotOutcome c own r now watches e).entry.low = e.low := by
  unfold slotOutcome
  dsimp only
  split <;> simp [entryWithoutResult]

theorem entryOk_slotOutcome (c : Settings) (own : Condition) (r : CycleReport) (now : Nat)
    (watches : List (Option Nat)) {e : Entry} (h : EntryOk e) :
    EntryOk (slotOutcome c own r now watches e).entry := by
  unfold slotOutcome
  dsimp only
  split
  · exact entryOk_dropStale (entryOk_entryAtCycleEnd c own _ _ _ _ _ h)
  · exact entryOk_dropStale h

theorem tableForm_takeResults {c : Settings} {own : Condition} {r : CycleReport} {s : State}
    {config : Option Settings} (h : TableForm config s.table.slots) :
    TableForm config (takeResults c own r s).1.table.slots := by
  simp only [takeResults, State.setFrames_fields, State.setTable_fields]
  rw [mapEntries_eq_mapSlots]
  refine tableForm_mapSlots h fun k e e' hok he => ?_
  obtain rfl := Option.some.inj he
  exact ⟨by simp, by simp, entryOk_slotOutcome c own r _ _ hok⟩

theorem tableForm_blocksAtCycleEnd {c : Settings} {r : CycleReport} {s : State}
    {config : Option Settings} (h : TableForm config s.table.slots) :
    TableForm config (blocksAtCycleEnd c r s).1.table.slots :=
  tableForm_takeResults (tableForm_checkParity h)

theorem tableForm_closeCycle {inputs : CycleInputs} {s0 : State} {heard : Heard} {e : Option Int}
    {s : State} {config : Option Settings} (h : TableForm config s.table.slots) :
    TableForm config (closeCycle inputs s0 heard e s).table.slots := by
  rw [(closeCycle_table inputs s0 heard e s).1]
  exact tableForm_checkParity (tableForm_upsetEntries (by simpa [settledCycle] using h))

theorem tableForm_endCycle {inputs : CycleInputs} {s : State} {config : Option Settings}
    (h : TableForm config s.table.slots) : TableForm config (endCycle inputs s).table.slots := by
  have hended : TableForm config (endedState inputs s).table.slots := tableForm_upsetEntries h
  cases hc : s.config with
  | none =>
    rw [endCycle_of_none hc]
    exact tableForm_closeCycle hended
  | some c =>
    rw [endCycle_of_some hc]
    exact tableForm_closeCycle (tableForm_blocksAtCycleEnd hended)

/-- The slots after the table's own boundary work (R57, R60, R105). -/
theorem tableStage_slots (c : Settings) (upsets : BoundaryUpsets) (g : CycleEdge) (s : State) :
    (tableStage c upsets g s).table.slots =
      (tableWork c g.offer
        (mapEntries (fun e => some (e.ageRecord g.accepted)) (readStage upsets s).table.slots)).1 := by
  simp [tableStage, tableBoundary]

theorem tableForm_tableStage {c : Settings} {upsets : BoundaryUpsets} {g : CycleEdge} {s : State}
    (h : TableForm (some c) s.table.slots) :
    TableForm (some c) (tableStage c upsets g s).table.slots := by
  rw [tableStage_slots]
  have hread : TableForm (some c) (readStage upsets s).table.slots :=
    tableForm_checkParity (tableForm_upsetEntries h)
  refine slotsOk_tableWork ?_
  rw [mapEntries_eq_mapSlots]
  refine tableForm_mapSlots hread fun k e e' hok he => ?_
  obtain rfl := Option.some.inj he
  exact ⟨by simp, by simp, entryOk_ageRecord hok⟩

theorem tableForm_frameBoundary {kind : BoundaryKind} {s : State} {config : Option Settings}
    (h : TableForm config s.table.slots) :
    TableForm config (frameBoundary kind s).table.slots := by
  cases kind with
  | ordinary => exact h
  | forced =>
    simp only [frameBoundary, State.setTable_fields]
    rw [mapEntries_eq_mapSlots]
    refine tableForm_mapSlots (tableForm_checkParity h) fun k e e' hok he => ?_
    obtain rfl := Option.some.inj he
    exact ⟨rfl, rfl, hok⟩

theorem tableForm_readForRegulation {struck : List Nat} {config : Option Settings} {s : State}
    (h : TableForm config s.table.slots) :
    TableForm config (readForRegulation struck s).table.slots :=
  tableForm_checkParity (tableForm_upsetEntries h)

theorem tableForm_readForSurvey {struck : List Nat} {config : Option Settings} {s : State}
    (h : TableForm config s.table.slots) : TableForm config (readForSurvey struck s).table.slots :=
  tableForm_checkParity (tableForm_upsetEntries h)

theorem tableForm_planRead {c : Settings} {kind : BoundaryKind} {upsets : BoundaryUpsets}
    {g : CycleEdge} {s : State} (h : TableForm (some c) s.table.slots) :
    TableForm (some c) (planRead c kind upsets g s).table.slots := by
  have happly : TableForm (some c) (applyRead c upsets g s).table.slots := by
    rw [applyRead]
    exact tableForm_readForRegulation (tableForm_tableStage h)
  have hsurvey : TableForm (some c) (surveyRead c kind upsets g s).table.slots := by
    rw [surveyRead]
    refine tableForm_readForSurvey ?_
    simpa only [applyStage, applyBoundary, State.setRegulation_fields] using happly
  rw [planRead]
  refine tableForm_readForRegulation ?_
  simpa only [superviseStage_eq, derive_fields, settledState_fields] using hsurvey

theorem tableForm_boundaryEnd {c : Settings} {kind : BoundaryKind} {upsets : BoundaryUpsets}
    {g : CycleEdge} {s : State} (h : TableForm (some c) s.table.slots) :
    TableForm (some c) (boundaryEnd c kind upsets g s).table.slots := by
  rw [boundaryEnd_eq]
  simp only [takeBit_fields, bindLanes_fields]
  refine tableForm_checkParity (tableForm_upsetEntries (tableForm_frameBoundary ?_))
  simp only [boundaryWorked, plannedStage_fields]
  exact tableForm_planRead (by simpa only [boundaryStart_fields] using h)

theorem tableForm_readSlots {lines : List Text} {sent : Nat} {slots : List Nat} {s : State}
    {config : Option Settings} (h : TableForm config s.table.slots) :
    TableForm config (readSlots lines sent slots s).table.slots := by
  induction slots generalizing s with
  | nil => exact h
  | cons slot rest ih =>
    unfold readSlots
    dsimp only
    split
    · exact tableForm_checkParity h
    · exact ih (tableForm_checkParity h)

theorem tableForm_reset : TableForm none State.reset.table.slots := by
  simp [TableForm, State.reset, entriesOf]

theorem slotsOk_of_tableForm_none {own : Nat} {slots : List (Option Entry)}
    (h : TableForm none slots) : SlotsOk own slots := by
  obtain ⟨hlength, hempty⟩ := h
  simp [SlotsOk, codesOf, hlength, hempty]

theorem Move.tableOk {x : Instr} {s t : State} (h : Move x s t) (hload : LoadOk s)
    (hs : TableOk s) : LoadOk t ∧ TableOk t := by
  have hkeep : t.load = s.load → t.config = s.config → TableForm s.config t.table.slots →
      LoadOk t ∧ TableOk t := fun hl hc htable => by
    rw [LoadOk, tableOk_iff, hl, hc]
    exact ⟨hload, htable⟩
  have hsame : t.load = s.load → t.config = s.config → t.table = s.table → LoadOk t ∧ TableOk t :=
    fun hl hc htable => hkeep hl hc (htable ▸ hs)
  have hnone : s.load = .waiting ∨ s.load = .reading → s.config = none := fun hl => by
    rw [← Option.not_isSome_iff_eq_none]
    intro hsome
    have := hload hsome
    simp_all
  cases h with
  | stays => exact ⟨hload, hs⟩
  | reset => exact ⟨by simp [LoadOk, State.reset], tableForm_reset⟩
  | resetEnd => exact ⟨by simp [LoadOk, resetEnded, State.reset], tableForm_reset⟩
  | restart => exact ⟨by simp [LoadOk, restarted, resetEnded, State.reset], tableForm_reset⟩
  | reads waits => exact ⟨by simp [LoadOk, hnone (.inl waits)], hs⟩
  | fails => exact ⟨by simp [LoadOk], by simpa [tableOk_iff] using (tableOk_iff s).mp hs⟩
  | accepts image unit loads =>
    refine ⟨by simp [LoadOk], ?_⟩
    rw [tableOk_iff, hnone (.inr loads)] at hs
    rw [tableOk_iff]
    simpa [TableForm] using slotsOk_of_tableForm_none hs
  | sample => exact hsame (by simp) (by simp) (by simp)
  | spanEnds => exact hsame (by simp) (by simp) (by simp)
  | windowDecided => exact hsame (by simp) (by simp) (by simp)
  | windowEnds => exact hsame (by simp) (by simp) (by simp)
  | cycleEnds inputs =>
    refine hkeep (by simp) (by simp) ?_
    have hended := tableForm_endCycle (inputs := inputs) (s := runTo s.timer.length s)
      (by simpa using (tableOk_iff s).mp hs)
    simpa using hended
  | boundary c kind upsets g free configured =>
    refine hkeep (by simp) (by simp) ?_
    rw [tableOk_iff, configured] at hs
    rw [configured]
    simpa using tableForm_boundaryEnd hs
  | bareBoundary => exact hsame (by simp) (by simp) (by simp)
  | dwellEnds c g free configured =>
    obtain ⟨table, correlator, edge, heq, -⟩ := takeDwellEnd_eq c g s
    refine hkeep (by rw [heq]) (by rw [heq]) ?_
    rw [tableOk_iff, configured] at hs
    rw [configured]
    rcases takeDwellEnd_slots c g s with h | ⟨code, figure, h⟩
    · exact h ▸ hs
    · exact h ▸ slotsOk_admitOffer hs
  | mains => exact hsame (by split <;> simp) (by split <;> simp) (by split <;> simp)
  | enters => exact hsame (by simp) (by simp) (by simp)
  | leaves => exact hsame (by simp) (by simp) (by simp)
  | serves => exact hkeep rfl rfl hs
  | readsLine =>
    refine hkeep (by simp) (by simp) ?_
    simpa using tableForm_readSlots (tableForm_upsetEntries hs)
  | repliesEnd => exact hsame (by simp) (by simp) (by simp)

/-! ### The set current -/

/-- What an accepted image says of the currents (R155, R181). -/
theorem currents_of_accepted {image : List Byte} (h : imageAccepted image = true) :
    ((settingsOf image).depth : Int) ≤ (settingsOf image).iMin ∧
      (settingsOf image).iMin ≤ (settingsOf image).iStart ∧
      (settingsOf image).iStart ≤ (settingsOf image).iMax := by
  simp only [imageAccepted, within, Bool.and_eq_true, decide_eq_true_eq] at h
  simp only [settingsOf]
  omega

/-- The range stage keeps the set current in its range after the step, and the step a multiple of 10 (R125). -/
theorem rangeStep_bounds {c : Settings} {i : PlanInput} {q : Int} (hlow : c.iMin ≤ i.setCurrent)
    (hhigh : i.setCurrent ≤ c.iMax) (hq : 10 ∣ q) :
    c.iMin ≤ i.setCurrent + (rangeStep c i q).1 / 10 ∧
      i.setCurrent + (rangeStep c i q).1 / 10 ≤ c.iMax := by
  unfold rangeStep
  dsimp only
  split
  · constructor <;> dsimp only <;> omega
  · split
    · constructor <;> dsimp only <;> omega
    · constructor <;> dsimp only <;> omega

theorem limitStep_dvd (c : Settings) (q : Int) : 10 ∣ limitStep c q := Dvd.intro _ rfl

/-- A plan keeps the set current in its range after its step (R125 to R127). -/
theorem planStep_range {c : Settings} {i : PlanInput} (hlow : c.iMin ≤ i.setCurrent)
    (hhigh : i.setCurrent ≤ c.iMax) :
    c.iMin ≤ i.setCurrent + (planStep c i).step ∧ i.setCurrent + (planStep c i).step ≤ c.iMax := by
  have hzero : ∀ b, c.iMin ≤ i.setCurrent + (zeroPlan b).step ∧
      i.setCurrent + (zeroPlan b).step ≤ c.iMax := fun b => by simp [zeroPlan, hlow, hhigh]
  unfold planStep
  split
  · exact hzero _
  · split
    · exact hzero _
    · dsimp only
      split
      · exact hzero _
      · unfold limitedPlan
        dsimp only
        split
        · simpa using ⟨hlow, hhigh⟩
        · exact rangeStep_bounds hlow hhigh (limitStep_dvd c _)

/-- The plan stage stages a step that keeps the range, or none outside REGULATING, and touches neither the set nor
the resume current. -/
theorem planStage_current (c : Settings) (regulating : Bool) (gSelf : Nat)
    (gSelfValid voltageLimit : Bool) (applied : Int) (neighbours : List (Nat × Int))
    (r : Regulation) :
    (planStage c regulating gSelf gSelfValid voltageLimit applied neighbours r).setCurrent =
        r.setCurrent ∧
      (planStage c regulating gSelf gSelfValid voltageLimit applied neighbours r).resume =
        r.resume ∧
      (regulating = false →
        (planStage c regulating gSelf gSelfValid voltageLimit applied neighbours r).staged = 0) ∧
      ∀ i, r.setCurrent = some i → c.iMin ≤ i → i ≤ c.iMax →
        c.iMin ≤ i +
            (planStage c regulating gSelf gSelfValid voltageLimit applied neighbours r).staged ∧
          i + (planStage c regulating gSelf gSelfValid voltageLimit applied neighbours r).staged ≤
            c.iMax := by
  cases regulating with
  | false =>
    simp only [planStage, Bool.false_eq_true, if_false, true_and, forall_const, add_zero]
    exact fun i _ hlow hhigh => ⟨hlow, hhigh⟩
  | true =>
    simp only [planStage, if_true, Bool.true_eq_false, IsEmpty.forall_iff, true_and]
    intro i hi hlow hhigh
    simpa [hi] using planStep_range (c := c)
      (i := { mean := r.frameMean, gSelf := gSelf, gSelfValid := gSelfValid,
              setCurrent := r.setCurrent.getD 0, applied := applied, neighbours := neighbours,
              voltageLimit := voltageLimit, spacing := r.spacing.map (countUp 255) })
      (by simpa [hi] using hlow) (by simpa [hi] using hhigh)

/-- The set current within its range, before and after the staged step, or at K with the resume current held while a
DEPOLARIZE survey runs (R11, R130, R131). -/
def CurrentForm (c : Settings) (running : Bool) (r : Regulation) : Prop :=
  ∃ i, r.setCurrent = some i ∧
    match r.resume with
    | none =>
      running = false ∧ c.iMin ≤ i ∧ i ≤ c.iMax ∧ c.iMin ≤ i + r.staged ∧ i + r.staged ≤ c.iMax
    | some resumed =>
      running = true ∧ i = c.depth ∧ r.staged = 0 ∧ c.iMin ≤ resumed ∧ resumed ≤ c.iMax

theorem currentOk_some_iff {s : State} {c : Settings} (hc : s.config = some c) :
    CurrentOk s ↔ (c.depth : Int) ≤ c.iMin ∧ c.iMin ≤ c.iMax ∧
      CurrentForm c (s.survey.runs .depolarize) s.regulation := by
  unfold CurrentOk
  rw [hc]
  rfl

/-- The apply stage leaves nothing staged, and keeps the current's form (R112). -/
theorem currentForm_applyStep {c : Settings} {running : Bool} {kind : BoundaryKind} {announced : Bool}
    {r : Regulation} (h : CurrentForm c running r) :
    CurrentForm c running (closeMean (applyStep kind announced r)) ∧
      (closeMean (applyStep kind announced r)).staged = 0 := by
  obtain ⟨i, hi, hform⟩ := h
  refine ⟨?_, rfl⟩
  cases hresume : r.resume with
  | none =>
    simp only [hresume] at hform
    obtain ⟨hrunning, hlow, hhigh, hlow', hhigh'⟩ := hform
    cases kind with
    | ordinary =>
      exact ⟨i + r.staged, by simp [closeMean, applyStep, hi],
        by simp [closeMean, applyStep, hresume, hrunning, hlow', hhigh']⟩
    | forced =>
      exact ⟨i, by simp [closeMean, applyStep, hi],
        by simp [closeMean, applyStep, hresume, hrunning, hlow, hhigh]⟩
  | some resumed =>
    simp only [hresume] at hform
    obtain ⟨hrunning, hdepth, hstaged, hlow, hhigh⟩ := hform
    exact ⟨i, by cases kind <;> simp [closeMean, applyStep, hi, hstaged],
      by simp [closeMean, applyStep, hresume, hrunning, hdepth, hlow, hhigh]⟩

/-- The survey adjustment keeps the current's form as the record goes from `v` to `v'` (R131, R142). -/
theorem currentForm_adjustForSurvey {c : Settings} {v v' : Survey} {r : Regulation}
    (h : CurrentForm c (v.runs .depolarize) r) (hstaged : r.staged = 0) :
    CurrentForm c (v'.runs .depolarize) (adjustForSurvey c (surveyRequest v v') r) ∧
      (adjustForSurvey c (surveyRequest v v') r).staged = 0 := by
  obtain ⟨i, hi, hform⟩ := h
  have hstands : ∀ request, (adjustForSurvey c request r).staged = 0 := by
    rintro (_ | _ | _) <;> exact hstaged
  refine ⟨?_, hstands _⟩
  unfold surveyRequest
  cases hafter : v'.runs .depolarize <;> cases hbefore : v.runs .depolarize <;>
    cases hresume : r.resume <;> simp only [hbefore, hresume] at hform <;>
    simp only [Bool.false_eq_true, Bool.true_eq_false, false_and, if_false, if_true,
      Bool.true_and, Bool.false_and] at hform ⊢
  case false.false.none =>
    exact ⟨i, hi, by simp [adjustForSurvey, hresume, hstaged, hform.2.1, hform.2.2.1]⟩
  case false.true.some resumed =>
    exact ⟨resumed, by simp [adjustForSurvey, hresume],
      by simp [adjustForSurvey, hstaged, hform.2.2.2.1, hform.2.2.2.2]⟩
  case true.false.none =>
    exact ⟨c.depth, rfl, by simp [adjustForSurvey, hresume, hi, hstaged, hform.2.1, hform.2.2.1]⟩
  case true.true.some resumed =>
    split
    · exact ⟨i, hi, by simp [adjustForSurvey, hresume, hstaged, hform.2.1, hform.2.2.2.1, hform.2.2.2.2]⟩
    · exact ⟨c.depth, rfl, by simp [adjustForSurvey, hresume, hstaged, hform.2.2.2.1, hform.2.2.2.2]⟩

theorem runs_of_not_running {v : Survey} (kind : SurveyKind) (h : v.phaseNow ≠ .running) :
    v.runs kind = false := by
  simp [Survey.runs, h]

theorem not_running_of_regulating {loaded : Bool} {u : Supervisor}
    (h : conditionOf loaded u = .regulating) : u.surveyRunning = false := by
  unfold conditionOf at h
  split_ifs at h
  simp_all

/-- The plan keeps the current's form: with a DEPOLARIZE survey running nothing is staged (R116, R130). -/
theorem currentForm_planStage {c : Settings} {running regulating : Bool} {gSelf : Nat}
    {gSelfValid voltageLimit : Bool} {applied : Int} {neighbours : List (Nat × Int)}
    {r : Regulation} (h : CurrentForm c running r) (hcondition : regulating = true → running = false) :
    CurrentForm c running
      (planStage c regulating gSelf gSelfValid voltageLimit applied neighbours r) := by
  obtain ⟨hset, hresume, hzero, hrange⟩ :=
    planStage_current c regulating gSelf gSelfValid voltageLimit applied neighbours r
  obtain ⟨i, hi, hform⟩ := h
  refine ⟨i, by rw [hset, hi], ?_⟩
  rw [hresume]
  cases hr : r.resume with
  | none =>
    simp only [hr] at hform ⊢
    obtain ⟨hrunning, hlow, hhigh, -, -⟩ := hform
    obtain ⟨hlow', hhigh'⟩ := hrange i hi hlow hhigh
    exact ⟨hrunning, hlow, hhigh, hlow', hhigh'⟩
  | some resumed =>
    simp only [hr] at hform ⊢
    obtain ⟨hrunning, hdepth, -, hlow, hhigh⟩ := hform
    have hnot : regulating = false := by
      cases hreg : regulating
      · rfl
      · simp [hcondition hreg] at hrunning
    exact ⟨hrunning, hdepth, hzero hnot, hlow, hhigh⟩

theorem currentForm_boundaryRegulation {c : Settings} {kind : BoundaryKind} {upsets : BoundaryUpsets}
    {g : CycleEdge} {s : State} (h : CurrentForm c (s.survey.runs .depolarize) s.regulation) :
    CurrentForm c ((boundarySurvey c kind upsets g s).runs .depolarize)
      (boundaryRegulation c kind upsets g s) := by
  have hsurvey : CurrentForm c ((boundarySurvey c kind upsets g s).runs .depolarize)
      (surveyStage c kind upsets (boundaryEdge c g s) (boundaryStart c g s)).regulation := by
    rw [surveyStage_regulation]
    simp only [boundaryStart_fields]
    obtain ⟨hform, hstaged⟩ := currentForm_applyStep (kind := kind)
      (announced := neighbourSteps
        (applyRead c upsets (boundaryEdge c g s) (boundaryStart c g s)).table.slots) h
    exact (currentForm_adjustForSurvey hform hstaged).1
  refine currentForm_planStage hsurvey fun hregulating => ?_
  have hrunning := not_running_of_regulating (of_decide_eq_true hregulating)
  rw [(settledFacts_fields c kind upsets (boundaryEdge c g s) (boundaryStart c g s)).2.2.2.2.2.2.2.2.2.2.1]
    at hrunning
  exact runs_of_not_running _ (of_decide_eq_false hrunning)

theorem gatherSample_current (c : Settings) (disturbed : Bool) (position : Nat)
    (o : Option InstantOff) (r : Regulation) :
    (gatherSample c disturbed position o r).setCurrent = r.setCurrent ∧
      (gatherSample c disturbed position o r).resume = r.resume ∧
      (gatherSample c disturbed position o r).staged = r.staged := by
  unfold gatherSample
  split
  · split <;> simp
  · simp

theorem endCycle_current (inputs : CycleInputs) (s : State) :
    (endCycle inputs s).regulation.setCurrent = s.regulation.setCurrent ∧
      (endCycle inputs s).regulation.resume = s.regulation.resume ∧
      (endCycle inputs s).regulation.staged = s.regulation.staged := by
  cases h : s.config with
  | none =>
    rw [endCycle_of_none h]
    simp
  | some c =>
    rw [endCycle_of_some h]
    simpa using gatherSample_current ..

/-- What the set current's invariant reads. -/
theorem currentOk_of_eq {s t : State} (h : CurrentOk s) (hconfig : t.config = s.config)
    (hset : t.regulation.setCurrent = s.regulation.setCurrent)
    (hresume : t.regulation.resume = s.regulation.resume)
    (hstaged : t.regulation.staged = s.regulation.staged)
    (hruns : t.survey.runs .depolarize = s.survey.runs .depolarize) : CurrentOk t := by
  unfold CurrentOk at h ⊢
  rw [hconfig, hset, hresume, hstaged, hruns]
  exact h

theorem Move.currentOk {x : Instr} {s t : State} (h : Move x s t) (hs : CurrentOk s) :
    CurrentOk t := by
  have hkeep : t.config = s.config → t.regulation = s.regulation → t.survey = s.survey →
      CurrentOk t := fun hc hr hv =>
    currentOk_of_eq hs hc (by rw [hr]) (by rw [hr]) (by rw [hr]) (by rw [hv])
  cases h with
  | stays => exact hs
  | reset => simp [CurrentOk, State.reset]
  | resetEnd => simp [CurrentOk, resetEnded, State.reset]
  | restart => simp [CurrentOk, restarted, resetEnded, State.reset]
  | reads => exact hs
  | fails => exact hkeep (by simp) (by simp) (by simp)
  | accepts image unit loads accepted =>
    obtain ⟨hdepth, hlow, hhigh⟩ := currents_of_accepted accepted
    refine (currentOk_some_iff (c := settingsOf image) (by simp)).mpr
      ⟨hdepth, hlow.trans hhigh, (settingsOf image).iStart, by simp, ?_⟩
    simp [State.reset, Survey.runs, Survey.phaseNow, hlow, hhigh]
  | sample => exact hkeep (by simp) (by simp) (by simp)
  | spanEnds => exact hkeep (by simp) (by simp) (by simp)
  | windowDecided => exact hkeep (by simp) (by simp) (by simp)
  | windowEnds => exact hkeep (by simp) (by simp) (by simp)
  | cycleEnds inputs =>
    obtain ⟨hset, hresume, hstaged⟩ := endCycle_current inputs (runTo s.timer.length s)
    exact currentOk_of_eq hs (by simp) (by simpa using hset) (by simpa using hresume)
      (by simpa using hstaged) (by simp)
  | boundary c kind upsets g free configured =>
    obtain ⟨hdepth, hrange, hform⟩ := (currentOk_some_iff configured).mp hs
    refine (currentOk_some_iff (c := c) (by simpa using configured)).mpr ⟨hdepth, hrange, ?_⟩
    simpa using currentForm_boundaryRegulation hform
  | bareBoundary => exact hkeep (by simp) (by simp) (by simp)
  | dwellEnds c g =>
    obtain ⟨table, correlator, edge, heq, -⟩ := takeDwellEnd_eq c g s
    exact hkeep (by rw [heq]) (by rw [heq]) (by rw [heq])
  | mains => exact hkeep (by split <;> simp) (by split <;> simp) (by split <;> simp)
  | enters => exact hkeep (by simp) (by simp) (by simp)
  | leaves => exact hkeep (by simp) (by simp) (by simp)
  | serves => exact currentOk_of_eq hs rfl rfl rfl rfl rfl
  | readsLine => exact hkeep (by simp) (by simp) (by simp)
  | repliesEnd => exact hkeep (by simp) (by simp) (by simp)

end Sys2Proof.Machine
end

section
/-! PROOFS. The statements over every command and every step: the queue, the occasions, the invariants, and the
demand's bounds. -/

namespace Sys2Proof.Machine
open Sys2Proof.Safety

/-! ### Occasions (log 2) -/

theorem commandEvent_of_not_ready {k : ServiceCommand} {s : State} (h : serviceReady s = false) :
    commandEvent k s = s := by
  simp [commandEvent, h]

/-- A command off its occasion changes nothing. -/
theorem exec_off_occasion {c : Instr} {s : State} (h : occasion c s = false) :
    exec c s = .next s := by
  cases c with
  | fullReset | mainsChange => simp [occasion] at h
  | resetEnd => simp_all [occasion, exec, execResetEnd]
  | configLoadStart => simp_all [occasion, exec, execConfigLoadStart]
  | configLoadEnd => simp_all [occasion, exec, execConfigLoadEnd]
  | loadNack => simp_all [occasion, exec, execLoadNack]
  | loadBusConflict => simp_all [occasion, exec, execLoadBusConflict]
  | loadTimeout => simp_all [occasion, exec, execLoadTimeout]
  | sample => simp_all [occasion, exec, execSample]
  | keyingSpanEnd => simp_all [occasion, exec, execKeyingSpanEnd]
  | offWindowDecision => simp_all [occasion, exec, execOffWindowDecision]
  | offWindowEnd =>
    cases hc : s.config with
    | none => simp [exec, execOffWindowEnd, hc]
    | some c => simp_all [occasion, exec, execOffWindowEnd]
  | cycleEnd => simp_all [occasion, exec, execCycleEnd]
  | frameBoundary =>
    cases hedge : s.edge with
    | none => simp [exec, execFrameBoundary, hedge]
    | some g =>
      cases hb : g.boundary with
      | none => simp [exec, execFrameBoundary, hedge, hb]
      | some kind => cases hc : s.config <;> simp_all [occasion, exec, execFrameBoundary]
  | dwellEnd =>
    cases hc : s.config with
    | none => simp [exec, execDwellEnd, hc]
    | some c =>
      cases hedge : s.edge with
      | none => simp [exec, execDwellEnd, hc, hedge]
      | some g =>
        simp only [occasion, hc, hedge, Option.isSome_some, Option.any_some, Bool.and_true] at h
        simp only [exec, execDwellEnd, hc, hedge]
        split
        · rfl
        · rename_i hheld
          rw [takeDwellEnd_of_not_due (by simpa [hheld] using h)]
  | brownoutEntry => simp_all [occasion, exec, execBrownoutEntry]
  | brownoutExit => simp_all [occasion, exec, execBrownoutExit]
  | characterReceived => simp_all [occasion, exec, execCharacterReceived]
  | status | table | capt | hold | free | survey | clear | restart =>
    exact congrArg Host.Outcome.next (commandEvent_of_not_ready h)
  | tableLineRead =>
    cases hheld : s.held with
    | true => simp [exec, execTableLineRead, hheld]
    | false =>
      cases hreply : s.service.reply with
      | none => simp [exec, execTableLineRead, hheld, hreply]
      | some r =>
        obtain ⟨lines, cursor⟩ := r
        cases cursor with
        | none => simp [exec, execTableLineRead, hheld, hreply]
        | some k => simp [occasion, hheld, hreply] at h
  | replyEnd =>
    cases hheld : s.held with
    | true => simp [exec, execReplyEnd, hheld]
    | false =>
      cases hreply : s.service.reply with
      | none => simp [exec, execReplyEnd, hheld, hreply]
      | some r =>
        obtain ⟨lines, cursor⟩ := r
        cases cursor with
        | some k => simp [exec, execReplyEnd, hheld, hreply]
        | none => simp [occasion, hheld, hreply] at h
  | deviceRestart =>
    simp only [occasion, restartDue] at h
    simp [exec, execDeviceRestart, h]

/-- A well-timed command finds its occasion; a character alone may fall on a line that does not take it. -/
theorem occasion_of_wellTimed {c : Instr} {s : State} (h : wellTimed c s = true)
    (hchar : ∀ b stop, c ≠ .characterReceived b stop) : occasion c s = true := by
  cases c with
  | characterReceived b stop => exact absurd rfl (hchar b stop)
  | offWindowEnd =>
    cases hc : s.config with
    | none => simp [wellTimed, hc] at h
    | some c =>
      simp only [wellTimed, occasion, hc, Option.any_some, Bool.and_eq_true, decide_eq_true_eq] at h ⊢
      exact ⟨h.1.1, h.2.le⟩
  | keyingSpanEnd | offWindowDecision =>
    simp only [wellTimed, occasion, Bool.and_eq_true, decide_eq_true_eq] at h ⊢
    simp [h]
  | status | table | capt | hold | free | survey | clear | restart =>
    simp only [wellTimed, lineFree, occasion, Bool.and_eq_true] at h ⊢
    exact h.1.1.1.1
  | _ => simp_all [wellTimed, occasion]

/-! ### Fault causes (R166) -/

theorem condition_of_fault {s : State} (h : StationOk s) {f : FaultCause}
    (hf : s.supervisor.faultCause = some f) : s.supervisor.condition = .fault := by
  rw [h.1]
  simp [conditionOf, hf]

/-- A fault cause stands through every move but a reset. -/
theorem Move.faultCause {x : Instr} {s t : State} (h : Move x s t)
    (hreset : ∀ sent, x ≠ .fullReset sent) (hend : x ≠ .resetEnd) (hrestart : x ≠ .deviceRestart)
    {f : FaultCause} (hf : s.supervisor.faultCause = some f) :
    t.supervisor.faultCause = some f := by
  cases h with
  | stays => exact hf
  | reset n => exact absurd rfl (hreset n)
  | resetEnd => exact absurd rfl hend
  | restart => exact absurd rfl hrestart
  | reads => exact hf
  | fails => simp [hf]
  | accepts => simp [hf]
  | sample p i v sup =>
    obtain ⟨low, high, heq⟩ := endMs_supervisor_eq p i v sup s
    simp [heq, hf]
  | spanEnds => simp [hf]
  | windowDecided => simp [hf]
  | windowEnds => simp [hf]
  | cycleEnds => simp [hf]
  | boundary => simp [boundaryFacts, hf]
  | bareBoundary => simp [hf]
  | dwellEnds c g =>
    obtain ⟨table, correlator, edge, heq, -⟩ := takeDwellEnd_eq c g s
    rw [heq]
    exact hf
  | mains => split <;> simp [hf]
  | enters => simp [enterBrownout, hf]
  | leaves => simp [hf]
  | serves => exact hf
  | readsLine lines sent slots struck =>
    obtain ⟨table, lanes, watches, latched, service, heq⟩ :=
      readSlots_eq lines sent slots (upsetEntries struck s)
    simp [heq, hf]
  | repliesEnd => simp [hf]

/-! ### The demand (R11 to R13) -/

theorem mem_outputConditions (x : Condition) :
    x ∈ [Condition.acquiring, .regulating, .holding, .survey] ↔ x.output = true := by
  cases x <;> decide

/-- The demand with output and no window open: ten times the set current, keyed by K in the keying span (R12). -/
theorem demandNow_of_output {s : State} {c : Settings} {i : Int} (hc : s.config = some c)
    (hi : s.regulation.setCurrent = some i) (houtput : s.supervisor.condition.output = true)
    (hwindow : s.timer.window ≠ .opened) :
    demandNow s =
      if s.ms < 960 then
        10 * i + 10 * c.depth *
          chip c.ownCode (chipIndex c.order s.timer.position (s.ms / 15)) *
          (if s.keying.dataBit then -1 else 1)
      else 10 * i := by
  simp [demandNow, hc, hi, houtput, hwindow]

/-- Keying moves the demand by K at most, up or down. -/
theorem keyed_bounds (k : Nat) (w i : Nat) (bit : Bool) :
    -(10 * (k : Int)) ≤ 10 * k * chip w i * (if bit then -1 else 1) ∧
      10 * (k : Int) * chip w i * (if bit then -1 else 1) ≤ 10 * k := by
  rcases chip_eq_one_or_neg_one w i with h | h <;> cases bit <;> simp [h]

/-- The set current never passes its range, but that K may stand for it (R11, R131). -/
theorem setCurrent_bounds {s : State} {c : Settings} (h : CurrentOk s) (hc : s.config = some c) :
    ∃ i, s.regulation.setCurrent = some i ∧ (c.depth : Int) ≤ i ∧ i ≤ c.iMax := by
  obtain ⟨hdepth, hrange, i, hi, hform⟩ := (currentOk_some_iff hc).mp h
  refine ⟨i, hi, ?_⟩
  split at hform
  · exact ⟨hdepth.trans hform.2.1, hform.2.2.1⟩
  · rw [hform.2.1]
    exact ⟨le_rfl, hdepth.trans hrange⟩

theorem demandNow_bounds {s : State} {c : Settings} (h : CurrentOk s) (hc : s.config = some c) :
    0 ≤ demandNow s ∧ demandNow s ≤ 10 * c.iMax + 10 * c.depth := by
  obtain ⟨i, hi, hlow, hhigh⟩ := setCurrent_bounds h hc
  have hdepth : (0 : Int) ≤ c.depth := Int.natCast_nonneg _
  by_cases hdriven : s.supervisor.condition.output = true ∧ s.timer.window ≠ .opened
  · rw [demandNow_of_output hc hi hdriven.1 hdriven.2]
    obtain ⟨hkeyedLow, hkeyedHigh⟩ := keyed_bounds c.depth c.ownCode
      (chipIndex c.order s.timer.position (s.ms / 15)) s.keying.dataBit
    split <;> omega
  · have hzero : demandNow s = 0 := by
      simp only [demandNow, hc, hi]
      rw [if_pos (by simpa [or_iff_not_imp_left] using hdriven)]
    omega

end Sys2Proof.Machine

namespace Sys2Proof.Proofs
open Sys2Proof.Machine Sys2Proof.Safety

/-- Settles O1: the queue's front is what a step runs. -/
theorem stepRunsFrontCommand : Obligations.StepRunsFrontCommand := by
  intro c rest s h
  simp [step, h]

/-- Settles O2, by the moves a command can make. -/
theorem everyCommandCompletes : Obligations.EveryCommandCompletes := by
  intro c s
  obtain ⟨t, h⟩ := exec_next c s
  exact ⟨t, h, (exec_move h).pending_eq⟩

/-- Settles O3, command by command. -/
theorem offOccasionIsStill : Obligations.OffOccasionIsStill :=
  fun _ _ => ⟨exec_off_occasion, occasion_of_wellTimed⟩

/-- Settles O6: while a reset holds the device, only a reset's start and end and a MAINS change find their occasion. -/
theorem heldDeviceIsStill : Obligations.HeldDeviceIsStill := by
  intro c s hheld hload hreset hend hmains
  apply exec_off_occasion
  cases c with
  | fullReset sent => exact absurd rfl (hreset sent)
  | resetEnd => exact absurd rfl hend
  | mainsChange present unit => exact absurd rfl (hmains present unit)
  | _ => simp [occasion, hheld, hload, serviceReady, brownoutEntryDue, brownoutExitDue, restartDue]

/-- Settles O36, by the moves a command can make and the station's invariant. -/
theorem faultStands : Obligations.FaultStands := by
  intro x f s t hs hreset hend hrestart hexec hf
  have hf' := (exec_move hexec).faultCause hreset hend hrestart hf
  exact ⟨hf', condition_of_fault ((exec_move hexec).stationOk hs) hf'⟩

/-- Settles O55: each invariant read from the reset values. -/
theorem resetMeetsInvariants : Obligations.ResetMeetsInvariants :=
  ⟨⟨rfl, by decide, rfl⟩, by simp [TimerOk, State.reset], by simp [LoadOk, State.reset],
    tableForm_reset, by simp [CurrentOk, State.reset], by simp [CaptureOk, State.reset]⟩

/-- A step keeps what every command keeps and the queue does not touch. -/
theorem step_keeps {P : State → Prop} (hqueue : ∀ s rest, P s → P { s with pending := rest })
    (hexec : ∀ c s t, P s → exec c s = .next t → P t) {s t : State} (hs : P s)
    (h : step s = .next t) : P t := by
  unfold step at h
  split at h
  · injection h with h
    exact h ▸ hs
  · exact hexec _ _ _ (hqueue s _ hs) h

/-- Settles O56, by the moves a command can make. -/
theorem stepKeepsStation : Obligations.StepKeepsStation := fun _ _ =>
  step_keeps (fun _ _ h => h) fun _ _ _ hs h => (exec_move h).stationOk hs

/-- Settles O57, by the moves a command can make. -/
theorem stepKeepsTimerAndCapture : Obligations.StepKeepsTimerAndCapture := fun _ _ h =>
  ⟨fun hs => step_keeps (P := TimerOk) (fun _ _ h => h)
      (fun _ _ _ hs h => (exec_move h).timerOk hs) hs h,
    fun hs => step_keeps (P := CaptureOk) (fun _ _ h => h)
      (fun _ _ _ hs h => (exec_move h).captureOk hs) hs h⟩

/-- Settles O58, by the moves a command can make. -/
theorem stepKeepsTable : Obligations.StepKeepsTable := fun _ _ hload htable h =>
  step_keeps (P := fun s => LoadOk s ∧ TableOk s) (fun _ _ h => h)
    (fun _ _ _ hs h => (exec_move h).tableOk hs.1 hs.2) ⟨hload, htable⟩ h

/-- Settles O59, by the moves a command can make. -/
theorem stepKeepsCurrent : Obligations.StepKeepsCurrent := fun _ _ =>
  step_keeps (fun _ _ h => h) fun _ _ _ hs h => (exec_move h).currentOk hs

/-- Settles O60: the pins carry the demand that the state gives. -/
theorem demandStaysBounded : Obligations.DemandStaysBounded := by
  rintro s ⟨-, -, hpins⟩
  refine ⟨?_, ?_, ?_⟩
  · intro c i hheld hc hi hopen houtput
    have hdemand : s.pins.demand = demandNow s := by simp [hpins, pinsNow, hheld]
    rw [hdemand, demandNow_of_output hc hi ((mem_outputConditions _).mp houtput) hopen]
    have hchip : s.ms / 15 = s.timer.phase / 300 := Nat.div_div_eq_div_mul _ _ _
    have hspan : s.ms < 960 ↔ s.timer.phase < 19200 := by
      unfold State.ms
      omega
    rw [hchip]
    exact ⟨fun h => if_pos (hspan.mpr h), fun h => if_neg (by omega)⟩
  · intro hs c hc
    cases hheld : s.held with
    | true =>
      obtain ⟨i, -, hlow, hhigh⟩ := setCurrent_bounds hs hc
      simp only [hpins, pinsNow, hheld, if_true]
      omega
    | false =>
      have hdemand : s.pins.demand = demandNow s := by simp [hpins, pinsNow, hheld]
      rw [hdemand]
      exact demandNow_bounds hs hc
  · intro h
    rw [hpins]
    apply pinsNow_demand_zero
    rw [mem_outputConditions, Bool.not_eq_true] at h
    tauto

end Sys2Proof.Proofs
end

section
/-! PROOFS. The resets and the configuration load (R154 to R156, R169, R181). -/

namespace Sys2Proof.Machine

/-! ### Two states compared -/

/-- Two states are one where they agree in every field. -/
theorem State.eq_iff_fields {s t : State} :
    s = t ↔ s.held = t.held ∧ s.load = t.load ∧ s.lines = t.lines ∧ s.bus = t.bus ∧
      s.wire = t.wire ∧ s.config = t.config ∧ s.timer = t.timer ∧ s.keying = t.keying ∧
      s.front = t.front ∧ s.correlator = t.correlator ∧ s.table = t.table ∧
      s.frames = t.frames ∧ s.agreement = t.agreement ∧ s.regulation = t.regulation ∧
      s.survey = t.survey ∧ s.capture = t.capture ∧ s.supervisor = t.supervisor ∧
      s.service = t.service ∧ s.pins = t.pins ∧ s.edge = t.edge ∧
      s.freeCount = t.freeCount ∧ s.pending = t.pending := by
  cases s
  cases t
  simp

/-! ### The rest of the millisecond in progress -/

/-- The phase count that a timer unit of the millisecond in progress is reached at. -/
def unitPhase (unit : Nat) (s : State) : Nat :=
  max s.timer.phase (min s.timer.length (20 * s.ms + min unit 19))

/-- Time that runs on within its millisecond is noted with the demand in force, and breaks no sampling (R15, R28). -/
theorem runToUnit_within (unit : Nat) (s : State) :
    runToUnit unit s =
      { s with
        edge := if unitPhase unit s = s.timer.phase then s.edge else none
        timer := { s.timer with phase := unitPhase unit s }
        keying :=
          { s.keying with
            segments :=
              if unitPhase unit s = s.timer.phase then s.keying.segments
              else s.keying.segments ++ [(s.pins.demand, unitPhase unit s - s.timer.phase)] } } := by
  unfold runToUnit runTo unitPhase
  split
  · rename_i hle
    simp [max_eq_left hle]
  · rename_i hlt
    have hms : s.timer.phase / 20 = (min s.timer.length (20 * s.ms + min unit 19)) / 20 := by
      unfold State.ms at hlt ⊢
      omega
    have hskip : ¬s.timer.phase / 20 < min ((min s.timer.length (20 * s.ms + min unit 19)) / 20) 1280 := by
      omega
    have hne : min s.timer.length (20 * s.ms + min unit 19) ≠ s.timer.phase := by omega
    rw [max_eq_right (by omega : s.timer.phase ≤ _), if_neg hne, if_neg hne, ← hms]
    rw [← hms] at hskip
    simp [hskip]

/-! ### The image -/

/-- What an accepted image says of the own code (R155, R181). -/
theorem ownCode_of_accepted {image : List Byte} (h : imageAccepted image = true) :
    (settingsOf image).ownCode ≤ 63 := by
  simp only [imageAccepted, within, Bool.and_eq_true, decide_eq_true_eq] at h
  simp only [settingsOf]
  omega

theorem windowOf_eq {code : Nat} (h : code ≤ 3) : windowOf code = 100 + 50 * code := by
  obtain rfl | rfl | rfl | rfl : code = 0 ∨ code = 1 ∨ code = 2 ∨ code = 3 := by omega
  all_goals rfl

/-! ### The ends of the load -/

/-- A load that fails where no cause stands gives FAULT with cause CONFIG, the other facts standing (R155, R156). -/
theorem loadFailed_supervisor {lines : I2cLines} {bus : List BusAction} {s : State}
    (hfault : s.supervisor.faultCause = none) :
    (loadFailed lines bus s).supervisor =
      { s.supervisor with condition := .fault, faultCause := some .config } := by
  simp [loadFailed, derive_supervisor, hfault, conditionOf]

theorem pins_of_fault {s : State} (hheld : s.held = false)
    (hcondition : s.supervisor.condition = .fault) :
    (drive s).pins.flt = true ∧ (drive s).pins.demand = 0 := by
  refine ⟨by simp [pinsNow, hheld, hcondition], ?_⟩
  rw [(drive_fields s).2.2.2.2.2.2.2.2.2.2.2.2.2.2.2.2.2.2.1]
  exact pinsNow_demand_zero s (.inr (.inl (by rw [hcondition]; rfl)))

theorem loadFailed_pins {lines : I2cLines} {bus : List BusAction} {s : State}
    (hheld : s.held = false) (hfault : s.supervisor.faultCause = none) :
    (loadFailed lines bus s).pins.flt = true ∧ (loadFailed lines bus s).pins.demand = 0 := by
  rw [loadFailed]
  exact pins_of_fault (by simpa using hheld) (by simp [hfault, conditionOf])

/-- The front end and the window where sampling starts from STARTING, or stays stopped (R28). -/
theorem derive_front_of_starting {s : State} (hcondition : s.supervisor.condition = .starting)
    (hbroken : s.front.unbroken = false) (hwindow : s.timer.window ≠ .opened)
    (hx : conditionOf s.config.isSome s.supervisor ≠ .starting) :
    (derive s).timer.window = s.timer.window ∧
      (derive s).front =
        { s.front with
          whole :=
            (conditionOf s.config.isSome s.supervisor).samples &&
              decide (s.timer.phase % 20 = 0) } := by
  refine ⟨by rw [derive_timer_of_not_opened hwindow], ?_⟩
  rw [derive, setCondition_front, hcondition, if_neg hx]
  simp [hbroken, hwindow, Condition.samples]

/-- A mark that was clear stays clear through a derivation of no cycle's start (R14). -/
theorem derive_keyed_of_clear {s : State} (hkeyed : s.keying.keyed = false) (hedge : s.edge = none) :
    (derive s).keying.keyed = false := by
  rw [derive, setCondition_keying]
  simp [keyedAfter, hkeyed, hedge]

/-- A derivation touches the keyed mark alone of the keying generator. -/
theorem derive_keying_eq (s : State) :
    (derive s).keying = { s.keying with keyed := (derive s).keying.keyed } := by
  rw [derive, setCondition_keying]

theorem derive_timer_eq (s : State) :
    (derive s).timer = { s.timer with window := (derive s).timer.window } := by
  rw [derive, setCondition_timer_eq]

/-- The time, the demand's spans and the keyed mark at a load's end, whichever it is: what a derivation at a unit of
the millisecond in progress leaves (R14, R15). -/
theorem unitEnd_time (unit : Nat) {s x : State} (htimer : x.timer = (runToUnit unit s).timer)
    (hkeying : x.keying = (runToUnit unit s).keying) (hedge : x.edge = (runToUnit unit s).edge) :
    (drive (derive x)).timer =
        { s.timer with
          phase := (drive (derive x)).timer.phase
          window := (drive (derive x)).timer.window } ∧
      (drive (derive x)).timer.phase =
        max s.timer.phase (min s.timer.length (20 * s.ms + min unit 19)) ∧
      (drive (derive x)).edge =
        (if (drive (derive x)).timer.phase = s.timer.phase then s.edge else none) ∧
      (drive (derive x)).keying =
        { s.keying with
          keyed := (drive (derive x)).keying.keyed
          segments :=
            if (drive (derive x)).timer.phase = s.timer.phase then s.keying.segments
            else
              s.keying.segments ++
                [(s.pins.demand, (drive (derive x)).timer.phase - s.timer.phase)] } ∧
      (s.keying.keyed = false → s.edge = none → (drive (derive x)).keying.keyed = false) := by
  have hrun := runToUnit_within unit s
  simp only [drive_fields]
  refine ⟨?_, by simp [htimer, hrun, unitPhase], by simp [htimer, hedge, hrun], ?_, fun hclear hnone => ?_⟩
  · rw [derive_timer_eq, htimer, hrun]
  · rw [derive_keying_eq, hkeying, derive_timer_eq, htimer, hrun]
  · exact derive_keyed_of_clear (by rw [hkeying, hrun]; exact hclear) (by simp [hedge, hrun, hnone])

/-- The window and the front end at a load's end from STARTING: sampling starts at the next whole millisecond, or stays
stopped (R28). -/
theorem unitEnd_front (unit : Nat) {s x : State} (htimer : x.timer = (runToUnit unit s).timer)
    (hfront : x.front = (runToUnit unit s).front)
    (hcondition : x.supervisor.condition = s.supervisor.condition)
    (hx : conditionOf x.config.isSome x.supervisor ≠ .starting)
    (hstarting : s.supervisor.condition = .starting) (hbroken : s.front.unbroken = false)
    (hwindow : s.timer.window ≠ .opened) :
    (drive (derive x)).timer.window = s.timer.window ∧
      (drive (derive x)).front =
        { s.front with
          whole :=
            (conditionOf x.config.isSome x.supervisor).samples &&
              decide ((drive (derive x)).timer.phase % 20 = 0) } := by
  have hrun := runToUnit_within unit s
  have hfront' : x.front = s.front := by rw [hfront, hrun]
  have hwindow' : x.timer.window = s.timer.window := by simp [htimer]
  obtain ⟨hstands, hstarts⟩ := derive_front_of_starting (s := x) (hcondition.trans hstarting)
    (by rw [hfront', hbroken]) (by rwa [hwindow']) hx
  simp only [drive_fields, derive_timer_kept]
  exact ⟨hstands.trans hwindow', by rw [hstarts, hfront']⟩

/-- What an accepted load makes of the device before the condition is derived (R155). -/
def loadBegun (c : Settings) (s : State) : State :=
  { s with
    load := .ended
    lines := .stopped
    bus := imageTransfer
    config := some c
    regulation := { State.reset.regulation with setCurrent := some c.iStart }
    correlator :=
      { State.reset.correlator with
        dwellCode := if 63 ≤ c.ownCode then 1 else c.ownCode + 1
        darkSeen := s.correlator.darkSeen }
    survey := State.reset.survey
    frames :=
      { s.frames with ownFrame := some (buildFrame .acquiring 0 State.reset.survey false false) }
    supervisor :=
      { s.supervisor with warn := false, brownout := false, lowRun := 0, highRun := 0 } }

theorem loadAccepted_eq (c : Settings) (s : State) :
    loadAccepted c s = drive (derive (loadBegun c s)) := rfl

/-- What a failed load makes of the device before the condition is derived (R155, R156). -/
def loadRefused (lines : I2cLines) (bus : List BusAction) (s : State) : State :=
  { s with load := .ended, lines := lines, bus := bus }.setSupervisor
    { s.supervisor with faultCause := s.supervisor.faultCause.or (some .config) }

theorem loadFailed_eq (lines : I2cLines) (bus : List BusAction) (s : State) :
    loadFailed lines bus s = drive (derive (loadRefused lines bus s)) := rfl

/-- An accepted load finds its station in ACQUIRING, or in DARK without MAINS (R152). -/
theorem conditionOf_loadBegun {c : Settings} {s : State} (hfault : s.supervisor.faultCause = none)
    (hworking : s.supervisor.working = false) :
    conditionOf (loadBegun c s).config.isSome (loadBegun c s).supervisor =
      if s.supervisor.mains then .acquiring else .dark := by
  cases hmains : s.supervisor.mains <;> simp [loadBegun, conditionOf, hfault, hworking, hmains]

/-- What an accepted load leaves of the supervisor: the supply monitor cleared, and ACQUIRING or DARK (R155). -/
theorem loadAccepted_supervisor {c : Settings} {s : State}
    (hfault : s.supervisor.faultCause = none) (hworking : s.supervisor.working = false) :
    (loadAccepted c s).supervisor =
        { s.supervisor with
          condition := if s.supervisor.mains then .acquiring else .dark
          warn := false, brownout := false, lowRun := 0, highRun := 0
          solitary := (loadAccepted c s).supervisor.solitary } ∧
      (s.supervisor.solitary = 0 → (loadAccepted c s).supervisor.solitary = 0) := by
  have hcondition := conditionOf_loadBegun (c := c) hfault hworking
  simp only [loadAccepted_eq, drive_fields, derive_supervisor, hcondition]
  exact ⟨by simp [loadBegun], fun h => by simp [loadBegun, h]⟩

/-- What an accepted load leaves of the correlator: the lanes at their reset values, the first dwell on the own code
plus one, and a moment of DARK noted where it is entered (R46, R50, R54). -/
theorem loadAccepted_correlator {c : Settings} {s : State} (hcode : c.ownCode ≤ 63) :
    (loadAccepted c s).correlator =
        { selfSum := 0, selfCount := 0, gSelf := 0, gSelfValid := false, reversed := 0,
          xpSelf := none, residual := none,
          darkSeen := (loadAccepted c s).correlator.darkSeen,
          lanes := List.replicate 4 none,
          dwellCode := if c.ownCode = 63 then 1 else c.ownCode + 1
          dwellSum := 0, dwellCount := 0, waiting := false, startCodes := [] } ∧
      (s.supervisor.condition = .starting → s.supervisor.faultCause = none →
        s.supervisor.working = false →
        (loadAccepted c s).correlator.darkSeen = (s.correlator.darkSeen || !s.supervisor.mains)) := by
  have hdwell : (63 ≤ c.ownCode) ↔ c.ownCode = 63 := by omega
  refine ⟨by simp [loadAccepted, derive, setCondition_correlator, State.reset, hdwell, List.replicate], ?_⟩
  intro hstarting hfault hworking
  have hcondition := conditionOf_loadBegun (c := c) hfault hworking
  simp only [loadAccepted_eq, drive_fields, derive, setCondition_correlator, hcondition]
  cases hmains : s.supervisor.mains <;> simp [loadBegun, hstarting]

end Sys2Proof.Machine

namespace Sys2Proof.Proofs
open Sys2Proof.Machine Sys2Proof.Safety

/-- Settles O4: the fields of a full reset are the reset values. -/
theorem fullResetClearsEveryBlock : Obligations.FullResetClearsEveryBlock := by
  intro sent s
  refine ⟨fullReset sent s, rfl, ?_⟩
  cases hreply : s.service.reply <;>
    simp [State.reset, List.replicate, cutOff, hreply, wireText]

/-- Settles O5: a reset that ends, and a restart, begin from the reset values. -/
theorem resetEndAndRestartBegin : Obligations.ResetEndAndRestartBegin := by
  refine ⟨?_, ?_⟩
  · rintro c capture s (⟨rfl, hheld, rfl⟩ | ⟨rfl, hheld, hreply, hpending, rfl⟩)
    · refine ⟨resetEnded s, by simp [exec, execResetEnd, hheld], fun hreply => ?_, rfl⟩
      exact cutOff_of_none 0 hreply
    · refine ⟨restarted s, by simp [exec, execDeviceRestart, hheld, hreply, hpending], fun _ => ?_, rfl⟩
      exact cutOff_of_none 0 hreply
  · intro sent s hheld hreply hpending
    refine ⟨fullReset sent s, resetEnded (fullReset sent s), restarted s, rfl, rfl,
      by simp [exec, execDeviceRestart, hheld, hreply, hpending], ?_⟩
    have hwire : cutOff 0 s = cutOff sent s := by
      rw [cutOff_of_none 0 hreply, cutOff_of_none sent hreply]
    have hwire' : cutOff 0 (fullReset sent s) = cutOff sent s :=
      cutOff_of_none 0 (by simp [State.reset])
    simp [State.eq_iff_fields, restarted, resetEnded, hwire, hwire']

/-- Settles O7: the read begins after its wait, and each of the failing ends is `loadFailed`. -/
theorem loadEventsReadOrFail : Obligations.LoadEventsReadOrFail := by
  refine ⟨by decide, fun s hs => by simp [exec, execConfigLoadStart, hs], ?_⟩
  intro c lines bus s hheld hfault hc
  have hexec : exec c s = .next (loadFailed lines bus s) := by
    rcases hc with ⟨hload, rfl, ⟨rfl, rfl⟩ | ⟨rfl, rfl⟩ | ⟨rfl, rfl⟩⟩ | ⟨n, rfl | rfl, hload, rfl, rfl⟩ |
      ⟨n, rfl, hload, rfl, rfl⟩
    · simp [exec, execLoadNack, hload, nackedTransfer, actionsThrough]
    · simp [exec, execLoadNack, hload, nackedTransfer, actionsThrough]
    · simp [exec, execLoadNack, hload, nackedTransfer, actionsThrough]
    · simp [exec, execLoadBusConflict, hload]
    · simp [exec, execLoadTimeout, hload]
    · simp [exec, execLoadTimeout, hload]
  obtain ⟨hflt, hdemand⟩ := loadFailed_pins (lines := lines) (bus := bus) hheld hfault
  refine ⟨_, hexec, by simp, by simp, by simp, ?_, by simp [hfault], hflt, hdemand, by simp, by simp,
    by simp, by simp, by simp, ?_, ?_, ?_⟩
  · rw [loadFailed_supervisor hfault]
  all_goals simp [loadFailed]

/-- Settles O8: the image's checks and fields, read byte by byte. -/
theorem imageChecks : Obligations.ImageChecks := by
  rintro image c b w signed rfl rfl rfl rfl
  have hwindow := fun h : imageByte image 20 ≤ 3 => windowOf_eq h
  refine ⟨rfl, hwindow, fun h => ?_, fun h => ?_, ?_⟩
  · exact if_neg (by simpa [imageByte] using h.trans_ne (by decide))
  · exact if_pos h
  · change imageAccepted image = true ↔ image.length = 30 ∧ imageByte image 0 = 0xC7 ∧ _ ∧ _ ∧ _ ∧ _ ∧ _ ∧
      _ ∧ _ ∧ _ ∧ _ ∧ _ ∧ _ ∧ _ ∧ _ ∧ _ ∧ _ ∧ _ ∧ _ ∧ _ ∧ _ ∧ _ ∧ _ ∧ _ ∧ _ ∧ _ ∧ _ ∧ _ ∧
      imageByte image 20 ≤ 3 ∧ _ ∧ _ ∧ _ ∧ _ ∧ imageByte image 24 ≤ 1 ∧ _
    simp only [imageAccepted, within, Bool.and_eq_true, decide_eq_true_eq, settingsOf]
    constructor
    · intro h
      have hlength := hwindow (by omega)
      refine ⟨by omega, by omega, by omega, ?_⟩
      constructorm* _ ∧ _
      all_goals omega
    · intro h
      have hlength := hwindow (by omega)
      constructorm* _ ∧ _
      all_goals omega

/-- Settles O9: time runs on within its millisecond, and the image is accepted or refused there. -/
theorem loadEndAcceptsOrRefuses : Obligations.LoadEndAcceptsOrRefuses := by
  intro image unit s hheld hload hconfig hfault hworking
  cases haccepted : imageAccepted image with
  | true =>
    obtain ⟨htimer, hphase, hedge, hkeying, hkeyed⟩ := unitEnd_time unit (s := s)
      (x := loadBegun (settingsOf image) (runToUnit unit s)) rfl rfl rfl
    obtain ⟨hsupervisor, hsolitary⟩ := loadAccepted_supervisor (c := settingsOf image)
      (s := runToUnit unit s) (by simpa using hfault) (by simpa using hworking)
    obtain ⟨hcorrelator, hdark⟩ := loadAccepted_correlator (s := runToUnit unit s)
      (ownCode_of_accepted haccepted)
    have hcondition := conditionOf_loadBegun (c := settingsOf image) (s := runToUnit unit s)
      (by simpa using hfault) (by simpa using hworking)
    refine ⟨loadAccepted (settingsOf image) (runToUnit unit s),
      by simp [exec, execConfigLoadEnd, hload, haccepted], by simp, by simp, by simp,
      by simp [State.eq_iff_fields, loadAccepted], htimer, hphase, hedge, hkeying, hkeyed, ?_, ?_⟩
    · intro hstarting hbroken hwindow
      have hfront := unitEnd_front unit (s := s)
        (x := loadBegun (settingsOf image) (runToUnit unit s)) rfl rfl (by simp [loadBegun])
        (by rw [hcondition]; split <;> simp) hstarting hbroken hwindow
      have hsamples : (if (runToUnit unit s).supervisor.mains then Condition.acquiring
          else .dark).samples = true := by split <;> rfl
      rwa [hcondition, hsamples] at hfront
    · rw [if_pos rfl]
      exact ⟨by simp, by simpa using hsupervisor, by simpa using hsolitary, by simp [State.reset],
        by simp [State.reset], by simp [loadAccepted], hcorrelator,
        fun h => by simpa using hdark (by simpa using h) (by simpa using hfault) (by simpa using hworking)⟩
  | false =>
    obtain ⟨htimer, hphase, hedge, hkeying, hkeyed⟩ := unitEnd_time unit (s := s)
      (x := loadRefused .stopped imageTransfer (runToUnit unit s)) rfl rfl rfl
    have hfault' : (runToUnit unit s).supervisor.faultCause = none := by simpa using hfault
    have hcondition : conditionOf (loadRefused .stopped imageTransfer (runToUnit unit s)).config.isSome
        (loadRefused .stopped imageTransfer (runToUnit unit s)).supervisor = .fault := by
      simp [loadRefused, conditionOf, hfault]
    obtain ⟨hflt, hdemand⟩ := loadFailed_pins (lines := .stopped) (bus := imageTransfer)
      (s := runToUnit unit s) (by simpa using hheld) hfault'
    refine ⟨loadFailed .stopped imageTransfer (runToUnit unit s),
      by simp [exec, execConfigLoadEnd, hload, haccepted], by simp, by simp, by simp,
      by simp [State.eq_iff_fields, loadFailed], htimer, hphase, hedge, hkeying, hkeyed, ?_, ?_⟩
    · intro hstarting hbroken hwindow
      have hfront := unitEnd_front unit (s := s)
        (x := loadRefused .stopped imageTransfer (runToUnit unit s)) rfl rfl (by simp [loadRefused])
        (by rw [hcondition]; simp) hstarting hbroken hwindow
      rwa [hcondition] at hfront
    · rw [if_neg Bool.false_ne_true]
      refine ⟨by simpa using hconfig, ?_, hflt, hdemand, by simp, by simp [loadFailed], ?_, by simp⟩
      · rw [loadFailed_supervisor hfault']
        simp
      · simp only [loadFailed_eq, drive_fields, derive, setCondition_correlator, hcondition]
        simp [loadRefused]

end Sys2Proof.Proofs
end

section
/-! PROOFS. The measurement within a cycle (R5 to R7, R15, R19 to R30, R36 to R38, R148), and rounding. -/

namespace Sys2Proof.Machine

/-! ### Rounding (00) -/

theorem roundDiv_neg (a : Int) (b : Nat) : roundDiv (-a) b = -roundDiv a b := by
  simp [roundDiv, Int.sign_neg]

theorem roundDiv_natCast (n : Nat) {b : Nat} (hb : 0 < b) :
    roundDiv (n : Int) b = ((2 * n + b) / (2 * b) : Nat) := by
  cases n with
  | zero =>
    have hhalf : b / (2 * b) = 0 := Nat.div_eq_of_lt (by omega)
    simp [roundDiv, hhalf]
  | succ n =>
    have hsign : ((n + 1 : Nat) : Int).sign = 1 := Int.sign_eq_one_of_pos (by omega)
    simp only [roundDiv, hsign, one_mul, Int.natAbs_natCast]

/-- The rounded quotient of a natural number lies within half a unit, and below a tie (00). -/
theorem roundDiv_natCast_spec (n : Nat) {b : Nat} (hb : 0 < b) :
    ∃ q : Nat, roundDiv (n : Int) b = q ∧ 2 * (b * q) ≤ 2 * n + b ∧ 2 * n < 2 * (b * q) + b := by
  refine ⟨(2 * n + b) / (2 * b), roundDiv_natCast n hb, ?_⟩
  have hdiv := Nat.div_add_mod (2 * n + b) (2 * b)
  have hmod := Nat.mod_lt (2 * n + b) (show 2 * b > 0 by omega)
  rw [mul_assoc] at hdiv
  omega

theorem roundDiv_nearest (a : Int) {b : Nat} (hb : 0 < b) :
    2 * (a - b * roundDiv a b).natAbs ≤ b ∧
      (2 * (a - b * roundDiv a b).natAbs = b → a.natAbs < b * (roundDiv a b).natAbs) := by
  have hnat : ∀ n : Nat, 2 * ((n : Int) - b * roundDiv n b).natAbs ≤ b ∧
      (2 * ((n : Int) - b * roundDiv n b).natAbs = b → n < b * (roundDiv n b).natAbs) := by
    intro n
    obtain ⟨q, hq, hlow, hhigh⟩ := roundDiv_natCast_spec n hb
    rw [hq, Int.natAbs_natCast, ← Nat.cast_mul]
    omega
  obtain ⟨n, rfl | rfl⟩ := Int.eq_nat_or_neg a
  · exact hnat n
  · have hflip : -(n : Int) - b * -roundDiv n b = -((n : Int) - b * roundDiv n b) := by ring
    rw [roundDiv_neg, hflip]
    simpa only [Int.natAbs_neg, Int.natAbs_natCast] using hnat n

/-! ### Saturation of the samples (R19) -/

theorem potentialSample_eq (p : Int) : potentialSample p = max (-40000) (min 10000 p) := rfl

theorem currentSample_eq (i : Int) : (currentSample i : Int) = max 0 (min 65000 i) := by
  unfold currentSample clampInt
  omega

theorem voltageSample_eq (v : Int) : (voltageSample v : Int) = max 0 (min 1000 v) := by
  unfold voltageSample clampInt
  omega

theorem supplySample_eq (x : Int) : (supplySample x : Int) = max 0 (min 2000 x) := by
  unfold supplySample clampInt
  omega

/-- A saturated P sample stands at an end of its range exactly when the input lies at or beyond it (R21). -/
theorem potentialSample_ends (p : Int) :
    (potentialSample p = -40000 ↔ p ≤ -40000) ∧ (potentialSample p = 10000 ↔ 10000 ≤ p) := by
  rw [potentialSample_eq]
  omega

/-! ### The demand of a millisecond (R15) -/

/-- The fold that keeps the value in force longest, the later of two that share a time. -/
theorem foldl_longest (units : Int → Nat) (parts : List (Int × Nat)) :
    (parts = [] ∧ parts.foldl (fun (best : Int × Nat) g =>
        if best.2 ≤ units g.1 then (g.1, units g.1) else best) (0, 0) = (0, 0)) ∨
      ∃ (d : Int) (k m : Nat),
        parts.foldl (fun (best : Int × Nat) g =>
          if best.2 ≤ units g.1 then (g.1, units g.1) else best) (0, 0) = (d, units d) ∧
        parts[k]? = some (d, m) ∧
        ∀ (j : Nat) (x : Int) (n : Nat), parts[j]? = some (x, n) →
          units x ≤ units d ∧ (units x = units d → j ≤ k) := by
  induction parts using List.reverseRecOn with
  | nil => exact .inl ⟨rfl, rfl⟩
  | append_singleton parts g ih =>
    refine .inr ?_
    have hlast : (parts ++ [g])[parts.length]? = some g := by simp
    have hsplit : ∀ (j : Nat) (y : Int × Nat), (parts ++ [g])[j]? = some y →
        parts[j]? = some y ∨ j = parts.length ∧ y = g := by
      intro j y hj
      rw [List.getElem?_append] at hj
      split at hj
      · exact .inl hj
      · rename_i hge
        obtain ⟨hlt, hy⟩ := List.getElem?_eq_some_iff.mp hj
        simp only [List.length_singleton] at hlt
        obtain rfl : j = parts.length := by omega
        exact .inr ⟨rfl, by simpa using hy.symm⟩
    rw [List.foldl_append, List.foldl_cons, List.foldl_nil]
    rcases ih with ⟨rfl, hfold⟩ | ⟨d, k, m, hfold, hk, hmax⟩
    · refine ⟨g.1, 0, g.2, by simp, by simp, fun j x n hj => ?_⟩
      rcases hsplit j _ hj with hj | ⟨rfl, hy⟩
      · simp at hj
      · subst hy
        simp
    · rw [hfold]
      dsimp only
      split
      · rename_i hle
        refine ⟨g.1, parts.length, g.2, rfl, hlast, fun j x n hj => ?_⟩
        rcases hsplit j _ hj with hj | ⟨rfl, hy⟩
        · have hlt := (List.getElem?_eq_some_iff.mp hj).1
          have := hmax j x n hj
          omega
        · subst hy
          simp
      · rename_i hlt
        have hklt := (List.getElem?_eq_some_iff.mp hk).1
        refine ⟨d, k, m, rfl, by rw [List.getElem?_append_left hklt, hk], fun j x n hj => ?_⟩
        rcases hsplit j _ hj with hj | ⟨rfl, hy⟩
        · exact hmax j x n hj
        · subst hy
          dsimp only at hlt
          omega

/-- The demand a millisecond counts with is one of its values, in force longest, the later at a tie (R15). -/
theorem demandOfMs_spec {parts : List (Int × Nat)} (h : parts ≠ []) :
    demandOfMs parts ∈ parts.map Prod.fst ∧
      ∀ (j : Nat) (x : Int) (n : Nat), parts[j]? = some (x, n) →
        unitsAt x parts ≤ unitsAt (demandOfMs parts) parts ∧
          (unitsAt x parts = unitsAt (demandOfMs parts) parts →
            ∃ (k : Nat) (m : Nat), j ≤ k ∧ parts[k]? = some (demandOfMs parts, m)) := by
  rcases foldl_longest (fun x => unitsAt x parts) parts with ⟨hnil, -⟩ | ⟨d, k, m, hfold, hk, hmax⟩
  · exact absurd hnil h
  · have hd : demandOfMs parts = d := congrArg Prod.fst hfold
    rw [hd]
    refine ⟨List.mem_map.mpr ⟨(d, m), List.mem_of_getElem? hk, rfl⟩, fun j x n hj => ?_⟩
    obtain ⟨hle, htie⟩ := hmax j x n hj
    exact ⟨hle, fun heq => ⟨k, m, htie heq, hk⟩⟩

theorem countDemand_tail {m phase : Nat} {demand : Int} {k : Keying} (h : 960 ≤ m) :
    countDemand m phase demand k = { k with segments := [] } := by
  simp [countDemand, h]

theorem countDemand_span {m phase : Nat} {demand : Int} {k : Keying} (h : m < 960) :
    countDemand m phase demand k =
      { k with
        demandSum := k.demandSum + demandOfMs (k.segments ++ [(demand, 20 - phase % 20)])
        demandMs := k.demandMs + 1
        segments := [] } := by
  simp [countDemand, Nat.not_le.mpr h]

/-! ### The front end at a sample (R19 to R26) -/

@[simp] theorem chipValues_kept (m : Nat) (p : Int) (f : FrontEnd) :
    (chipValues m p f).unbroken = f.unbroken ∧ (chipValues m p f).whole = f.whole ∧
      (chipValues m p f).overrange = f.overrange ∧
      (chipValues m p f).currentSum = f.currentSum ∧
      (chipValues m p f).voltageSum = f.voltageSum ∧
      (chipValues m p f).onPotential = f.onPotential ∧
      (chipValues m p f).meanCurrent = f.meanCurrent ∧
      (chipValues m p f).meanVoltage = f.meanVoltage ∧
      (chipValues m p f).offSum = f.offSum ∧ (chipValues m p f).offCount = f.offCount ∧
      (chipValues m p f).instantOff = f.instantOff ∧
      (chipValues m p f).supplySum = f.supplySum ∧
      (chipValues m p f).supplyCount = f.supplyCount ∧
      (chipValues m p f).lastMeanS = f.lastMeanS := by
  unfold chipValues
  split <;> simp

theorem chipValues_tail {m : Nat} (h : 960 ≤ m) (p : Int) (f : FrontEnd) : chipValues m p f = f := by
  simp [chipValues, h]

/-- A P sample of the keying span joins its position's run, whose means form at offsets 8, 11 and 14 (R22). -/
theorem chipValues_span {m : Nat} (h : m < 960) (p : Int) (f : FrontEnd) :
    chipValues m p f =
      { f with
        chipSamples := (if m % 15 = 0 then [] else f.chipSamples) ++ [p]
        early :=
          if m % 15 = 8 then
            f.early ++ [roundMean ((if m % 15 = 0 then [] else f.chipSamples) ++ [p])]
          else f.early
        prompt :=
          if m % 15 = 11 then
            f.prompt ++ [roundMean (((if m % 15 = 0 then [] else f.chipSamples) ++ [p]).drop 3)]
          else f.prompt
        late :=
          if m % 15 = 14 then
            f.late ++ [roundMean (((if m % 15 = 0 then [] else f.chipSamples) ++ [p]).drop 6)]
          else f.late } := by
  simp [chipValues, Nat.not_le.mpr h]

@[simp] theorem currentVoltageSums_kept (m i v : Nat) (f : FrontEnd) :
    currentVoltageSums m i v f =
      { f with
        currentSum := f.currentSum + (if m < 960 then i else 0)
        voltageSum := f.voltageSum + (if m < 960 then v else 0) } := by
  unfold currentVoltageSums
  by_cases h : 960 ≤ m
  · simp [h, Nat.not_lt.mpr h]
  · simp [h, Nat.not_le.mp h]

/-- The instant-off interval touches its sum, its count and the instant-off sample alone. -/
theorem instantOffValues_eq (c : Settings) (window : WindowState) (tag : Condition) (m : Nat)
    (p : Int) (f : FrontEnd) :
    instantOffValues c window tag m p f =
      { f with
        offSum := (instantOffValues c window tag m p f).offSum
        offCount := (instantOffValues c window tag m p f).offCount
        instantOff := (instantOffValues c window tag m p f).instantOff } := by
  unfold instantOffValues
  dsimp only
  split
  · split <;> rfl
  · rfl

/-- Outside the instant-off interval nothing of it changes (R24). -/
theorem instantOffValues_outside {c : Settings} {window : WindowState} {tag : Condition} {m : Nat}
    (p : Int) (f : FrontEnd)
    (h : window ≠ .opened ∨ m < 970 + c.sampleDelay ∨ 970 + c.sampleDelay + 7 < m) :
    instantOffValues c window tag m p f = f := by
  unfold instantOffValues
  dsimp only
  rw [if_neg]
  simp only [Bool.and_eq_true, decide_eq_true_eq]
  rintro ⟨⟨hwindow, hlow⟩, hhigh⟩
  rcases h with h | h | h
  · exact h hwindow
  · omega
  · omega

/-- Within the interval its first seven samples are summed (R24). -/
theorem instantOffValues_inside {c : Settings} {tag : Condition} {m : Nat} (p : Int) (f : FrontEnd)
    (hlow : 970 + c.sampleDelay ≤ m) (hhigh : m < 970 + c.sampleDelay + 7) :
    instantOffValues c .opened tag m p f =
      { f with offSum := f.offSum + p, offCount := f.offCount + 1 } := by
  unfold instantOffValues
  dsimp only
  rw [if_pos (by simp; omega), if_neg (by omega)]

/-- The eighth sample of the interval makes the instant-off sample (R24). -/
theorem instantOffValues_last {c : Settings} {tag : Condition} {m : Nat} (p : Int) (f : FrontEnd)
    (h : m = 970 + c.sampleDelay + 7) :
    instantOffValues c .opened tag m p f =
      { f with
        offSum := 0
        offCount := 0
        instantOff :=
          if f.offCount = 7 then some { value := roundDiv (f.offSum + p) 8, tag := tag } else none } := by
  unfold instantOffValues
  dsimp only
  rw [if_pos (by simp; omega), if_pos h]

section FrontSample
variable (c : Option Settings) (window : WindowState) (tag : Condition) (m : Nat) (p : Int)
  (i v sup : Nat) (f : FrontEnd)

/-- The front end with S counted, and a P sample at an end of its range marked where P is sampled (R20, R21). -/
def supplyCounted : FrontEnd :=
  { f with
    supplySum := f.supplySum + sup
    supplyCount := f.supplyCount + 1
    overrange :=
      f.overrange || (f.whole && c.isSome && (decide (p = -40000) || decide (p = 10000))) }

/-- Where no P, I and V samples count, a sample leaves their values. -/
theorem frontSample_of_idle (h : f.whole = false ∨ f.unbroken = false ∨ c = none) :
    frontSample c window tag m p i v sup f = supplyCounted c p sup f := by
  unfold frontSample supplyCounted
  cases hw : f.whole <;> cases hu : f.unbroken <;> cases c <;> simp_all [Bool.or_assoc]

/-- In a cycle sampled without a break every value of the cycle takes its sample (R22, R24, R26). -/
theorem frontSample_of_counting {c' : Settings} (hw : f.whole = true) (hu : f.unbroken = true)
    (hc : c = some c') :
    frontSample c window tag m p i v sup f =
      instantOffValues c' window tag m p
        (currentVoltageSums m i v (chipValues m p (supplyCounted c p sup f))) := by
  have hcounted : supplyCounted c p sup f =
      { f with
        supplySum := f.supplySum + sup
        supplyCount := f.supplyCount + 1
        overrange := f.overrange || decide (p = -40000) || decide (p = 10000) } := by
    simp [supplyCounted, hw, hc, Bool.or_assoc]
  rw [hcounted, hc]
  unfold frontSample
  dsimp only
  rw [hw]
  dsimp only
  rw [if_pos hu]

/-- A sample leaves what the keying span's end, the cycle's start and the supervisor make. -/
theorem frontSample_kept :
    (frontSample c window tag m p i v sup f).unbroken = f.unbroken ∧
      (frontSample c window tag m p i v sup f).onPotential = f.onPotential ∧
      (frontSample c window tag m p i v sup f).meanCurrent = f.meanCurrent ∧
      (frontSample c window tag m p i v sup f).meanVoltage = f.meanVoltage ∧
      (frontSample c window tag m p i v sup f).lastMeanS = f.lastMeanS ∧
      (frontSample c window tag m p i v sup f).supplySum = f.supplySum + sup ∧
      (frontSample c window tag m p i v sup f).supplyCount = f.supplyCount + 1 ∧
      (frontSample c window tag m p i v sup f).overrange = (supplyCounted c p sup f).overrange := by
  by_cases h : f.whole = false ∨ f.unbroken = false ∨ c = none
  · rw [frontSample_of_idle c window tag m p i v sup f h]
    simp [supplyCounted]
  · simp only [not_or, Bool.not_eq_false, ← ne_eq, Option.ne_none_iff_exists'] at h
    obtain ⟨hw, hu, c', hc⟩ := h
    rw [frontSample_of_counting c window tag m p i v sup f hw hu hc, instantOffValues_eq]
    simp [supplyCounted]

end FrontSample

/-- The front end at the end of a millisecond (R19, R20, R28). -/
theorem endMs_front (p i v sup : Int) (s : State) :
    (endMs p i v sup s).front =
      { (if 1280 ≤ s.ms then s.front
         else
          frontSample s.config s.timer.window s.supervisor.condition s.ms (potentialSample p)
            (currentSample i) (voltageSample v) (supplySample sup) s.front) with
        whole := s.supervisor.condition.samples } := by
  simp [endMs]

/-- Which conditions sample P, I and V, as a list (R28). -/
theorem samples_eq_decide (x : Condition) :
    x.samples =
      decide (x ∈ [Condition.acquiring, .regulating, .holding, .survey, .dark]) := by
  cases x <;> decide

theorem exec_sample {p i v sup : Int} {s : State} (hheld : s.held = false)
    (hwithin : 20 * (s.ms + 1) ≤ s.timer.length) :
    exec (.sample p i v sup) s = .next (endMs p i v sup s) := by
  simp [exec, execSample, hheld, hwithin]

/-! ### The keying span's end (R23, R26, R36 to R38) -/

theorem foldl_max_spec (xs : List Int) (x : Int) :
    xs.foldl max x ∈ x :: xs ∧ ∀ y ∈ x :: xs, y ≤ xs.foldl max x := by
  induction xs generalizing x with
  | nil => simp
  | cons z xs ih =>
    obtain ⟨hmem, hle⟩ := ih (max x z)
    simp only [List.mem_cons, forall_eq_or_imp, List.foldl_cons] at hmem hle ⊢
    refine ⟨?_, by omega, by omega, hle.2⟩
    rcases hmem with h | h
    · omega
    · exact .inr (.inr h)

theorem foldl_min_spec (xs : List Int) (x : Int) :
    xs.foldl min x ∈ x :: xs ∧ ∀ y ∈ x :: xs, xs.foldl min x ≤ y := by
  induction xs generalizing x with
  | nil => simp
  | cons z xs ih =>
    obtain ⟨hmem, hle⟩ := ih (min x z)
    simp only [List.mem_cons, forall_eq_or_imp, List.foldl_cons] at hmem hle ⊢
    refine ⟨?_, by omega, by omega, hle.2⟩
    rcases hmem with h | h
    · omega
    · exact .inr (.inr h)

/-- The spread of some values exceeds a limit exactly when two of them lie further apart (R38). -/
theorem lt_spread_iff {xs : List Int} (h : xs ≠ []) (limit : Int) :
    limit < spread xs ↔ ∃ x ∈ xs, ∃ y ∈ xs, limit < x - y := by
  obtain ⟨x, xs, rfl⟩ := List.exists_cons_of_ne_nil h
  obtain ⟨hmaxMem, hmax⟩ := foldl_max_spec xs x
  obtain ⟨hminMem, hmin⟩ := foldl_min_spec xs x
  change limit < xs.foldl max x - xs.foldl min x ↔ _
  constructor
  · exact fun hlt => ⟨_, hmaxMem, _, hminMem, hlt⟩
  · rintro ⟨a, ha, b, hb, hab⟩
    have := hmax a ha
    have := hmin b hb
    omega

theorem eq_map_range_getD {xs : List Int} {n : Nat} (h : xs.length = n) :
    xs = (List.range n).map fun p => xs.getD p 0 := by
  apply List.ext_getElem
  · simpa using h
  · intro p hp hp'
    simp [List.getD_eq_getElem?_getD, hp]

theorem corrSum_eq_sum_range {order : ChipOrder} {position w : Nat} {values : List Int}
    (h : values.length = 64) :
    corrSum order position w values =
      ((List.range 64).map fun p => chip w (chipIndex order position p) * values.getD p 0).sum := by
  conv_lhs => rw [eq_map_range_getD h]
  exact corrSum_map_range ..

theorem mem_residuals {order : ChipOrder} {position own : Nat} {xp x : Int} {prompt : List Int} :
    x ∈ residuals order position own xp prompt ↔
      ∃ p < prompt.length, x =
        prompt.getD p 0 - roundDiv (xp * chip own (chipIndex order position p)) 64 := by
  simp only [residuals, List.mem_map, Prod.exists, List.mem_zipIdx_iff_getElem?]
  constructor
  · rintro ⟨v, p, hp, rfl⟩
    obtain ⟨hlt, hv⟩ := List.getElem?_eq_some_iff.mp hp
    exact ⟨p, hlt, by simp [List.getD_eq_getElem?_getD, hp]⟩
  · rintro ⟨p, hp, rfl⟩
    exact ⟨prompt[p], p, List.getElem?_eq_getElem hp, by simp [List.getD_eq_getElem?_getD, hp]⟩

/-- The residual test finds two residuals further apart than the stray limit (R38). -/
theorem residualTest_iff {c : Settings} {position : Nat} {xp : Int} {prompt : List Int}
    (h : prompt.length = 64) {r : Nat → Int}
    (hr : ∀ p, r p = prompt.getD p 0 -
      roundDiv (xp * chip c.ownCode (chipIndex c.order position p)) 64) :
    residualTest c position xp prompt = true ↔ ∃ p < 64, ∃ q < 64, c.strayLimit < r p - r q := by
  have hne : residuals c.order position c.ownCode xp prompt ≠ [] := by
    rw [← List.length_pos_iff_ne_nil]
    simp [residuals, h]
  rw [residualTest, decide_eq_true_eq, lt_spread_iff hne]
  simp only [mem_residuals, ← hr, h]
  constructor
  · rintro ⟨x, ⟨p, hp, rfl⟩, y, ⟨q, hq, rfl⟩, hlt⟩
    exact ⟨p, hp, q, hq, hlt⟩
  · rintro ⟨p, hp, q, hq, hlt⟩
    exact ⟨r p, ⟨p, hp, rfl⟩, r q, ⟨q, hq, rfl⟩, hlt⟩

/-! ### The OFF window -/

theorem windowOpens_iff (s : State) :
    windowOpens s = true ↔
      s.supervisor.condition ∈ [Condition.acquiring, .regulating, .holding, .survey] ∧
        (s.timer.position % 8 = 0 ∨
          (s.survey.valid = true ∧ s.survey.phase = .running ∧ s.survey.kind = .interrupt)) := by
  have hruns : s.survey.runs .interrupt = true ↔
      s.survey.valid = true ∧ s.survey.phase = .running ∧ s.survey.kind = .interrupt := by
    cases h : s.survey.valid <;> simp [Survey.runs, Survey.phaseNow, h]
  have hmem : s.supervisor.condition ∈ [Condition.acquiring, .regulating, .holding, .survey] ↔
      s.supervisor.condition.output = true := by
    cases s.supervisor.condition <;> decide
  rw [windowOpens, Bool.and_eq_true, Bool.or_eq_true, decide_eq_true_eq, hruns, hmem]
  tauto

end Sys2Proof.Machine
end

section
/-! PROOFS. The statements of the measurement within a cycle. -/

namespace Sys2Proof.Machine

/-! ### The front end at the end of a millisecond, case by case -/

section EndMs
variable (p i v u : Int) (s : State)

theorem endMs_front_kept :
    (endMs p i v u s).front.unbroken = s.front.unbroken ∧
      (endMs p i v u s).front.whole = s.supervisor.condition.samples ∧
      (endMs p i v u s).front.onPotential = s.front.onPotential ∧
      (endMs p i v u s).front.meanCurrent = s.front.meanCurrent ∧
      (endMs p i v u s).front.meanVoltage = s.front.meanVoltage ∧
      (endMs p i v u s).front.lastMeanS = s.front.lastMeanS := by
  rw [endMs_front]
  split
  · simp
  · simp [frontSample_kept]

/-- The supply sums and the overrange mark: a millisecond past ms 1279 gives no sample (R19 to R21). -/
theorem endMs_front_counted :
    (s.ms < 1280 →
      (endMs p i v u s).front.supplySum = s.front.supplySum + supplySample u ∧
        (endMs p i v u s).front.supplyCount = s.front.supplyCount + 1 ∧
        (endMs p i v u s).front.overrange =
          (s.front.overrange ||
            (s.front.whole && s.config.isSome && (decide (p ≤ -40000) || decide (10000 ≤ p))))) ∧
      (1280 ≤ s.ms →
        (endMs p i v u s).front.supplySum = s.front.supplySum ∧
          (endMs p i v u s).front.supplyCount = s.front.supplyCount ∧
          (endMs p i v u s).front.overrange = s.front.overrange) := by
  obtain ⟨hlow, hhigh⟩ := potentialSample_ends p
  refine ⟨fun h => ?_, fun h => ?_⟩
  · rw [endMs_front, if_neg (by omega)]
    simp [frontSample_kept, supplyCounted, hlow, hhigh]
  · rw [endMs_front, if_pos h]
    exact ⟨rfl, rfl, rfl⟩

/-- Where P, I and V do not count, their values stand (R28). -/
theorem endMs_front_idle
    (h : s.front.whole = false ∨ s.front.unbroken = false ∨ s.config = none) :
    (endMs p i v u s).front =
      { s.front with
        whole := s.supervisor.condition.samples
        overrange := (endMs p i v u s).front.overrange
        supplySum := (endMs p i v u s).front.supplySum
        supplyCount := (endMs p i v u s).front.supplyCount } := by
  rw [endMs_front]
  split
  · rfl
  · rw [frontSample_of_idle _ _ _ _ _ _ _ _ _ h]
    rfl

/-- A millisecond past ms 1279 leaves the front end but for its listening (R20). -/
theorem endMs_front_late (h : 1280 ≤ s.ms) :
    (endMs p i v u s).front = { s.front with whole := s.supervisor.condition.samples } := by
  rw [endMs_front, if_pos h]

/-- Where P, I and V count, each value takes its sample (R22, R24, R26). -/
theorem endMs_front_counting {c : Settings} (hw : s.front.whole = true) (hu : s.front.unbroken = true)
    (hc : s.config = some c) (h : s.ms < 1280) :
    (endMs p i v u s).front =
      { instantOffValues c s.timer.window s.supervisor.condition s.ms (potentialSample p)
          (currentVoltageSums s.ms (currentSample i) (voltageSample v)
            (chipValues s.ms (potentialSample p)
              (supplyCounted s.config (potentialSample p) (supplySample u) s.front))) with
        whole := s.supervisor.condition.samples } := by
  rw [endMs_front, if_neg (by omega), frontSample_of_counting _ _ _ _ _ _ _ _ _ hw hu hc]

/-- The chip values of a sample's front end, and its sums, through the instant-off interval. -/
theorem endMs_front_values {c : Settings} (hw : s.front.whole = true) (hu : s.front.unbroken = true)
    (hc : s.config = some c) (h : s.ms < 1280) :
    (endMs p i v u s).front.chipSamples =
        (chipValues s.ms (potentialSample p) s.front).chipSamples ∧
      (endMs p i v u s).front.early = (chipValues s.ms (potentialSample p) s.front).early ∧
      (endMs p i v u s).front.prompt = (chipValues s.ms (potentialSample p) s.front).prompt ∧
      (endMs p i v u s).front.late = (chipValues s.ms (potentialSample p) s.front).late ∧
      (endMs p i v u s).front.currentSum =
        s.front.currentSum + (if s.ms < 960 then currentSample i else 0) ∧
      (endMs p i v u s).front.voltageSum =
        s.front.voltageSum + (if s.ms < 960 then voltageSample v else 0) := by
  rw [endMs_front_counting p i v u s hw hu hc h, instantOffValues_eq]
  by_cases hspan : 960 ≤ s.ms <;> simp [supplyCounted, chipValues, hspan]

/-- The instant-off interval's values at a sample that counts (R24). -/
theorem endMs_front_interval {c : Settings} (hw : s.front.whole = true)
    (hu : s.front.unbroken = true) (hc : s.config = some c) (h : s.ms < 1280) :
    (s.timer.window ≠ .opened ∨ s.ms < 970 + c.sampleDelay ∨ 970 + c.sampleDelay + 7 < s.ms →
      (endMs p i v u s).front.offSum = s.front.offSum ∧
        (endMs p i v u s).front.offCount = s.front.offCount ∧
        (endMs p i v u s).front.instantOff = s.front.instantOff) ∧
    (s.timer.window = .opened → 970 + c.sampleDelay ≤ s.ms → s.ms < 970 + c.sampleDelay + 7 →
      (endMs p i v u s).front.offSum = s.front.offSum + potentialSample p ∧
        (endMs p i v u s).front.offCount = s.front.offCount + 1 ∧
        (endMs p i v u s).front.instantOff = s.front.instantOff) ∧
    (s.timer.window = .opened → s.ms = 970 + c.sampleDelay + 7 →
      (endMs p i v u s).front.offSum = 0 ∧ (endMs p i v u s).front.offCount = 0 ∧
        (endMs p i v u s).front.instantOff =
          (if s.front.offCount = 7 then
            some
              { value := roundDiv (s.front.offSum + potentialSample p) 8
                tag := s.supervisor.condition }
           else none)) := by
  rw [endMs_front_counting p i v u s hw hu hc h]
  refine ⟨fun hout => ?_, fun hopen hlow hhigh => ?_, fun hopen hlast => ?_⟩
  · rw [instantOffValues_outside _ _ hout]
    simp [supplyCounted]
  · rw [hopen, instantOffValues_inside _ _ hlow hhigh]
    simp [supplyCounted]
  · rw [hopen, instantOffValues_last _ _ hlast]
    simp [supplyCounted]

/-- A window that is not open leaves the instant-off interval's values. -/
theorem endMs_front_interval_closed
    (h : s.timer.window ≠ .opened ∨ s.front.whole = false ∨ s.front.unbroken = false ∨
      s.config = none) :
    (endMs p i v u s).front.offSum = s.front.offSum ∧
      (endMs p i v u s).front.offCount = s.front.offCount ∧
      (endMs p i v u s).front.instantOff = s.front.instantOff := by
  by_cases hidle : s.front.whole = false ∨ s.front.unbroken = false ∨ s.config = none
  · rw [endMs_front_idle p i v u s hidle]
    exact ⟨rfl, rfl, rfl⟩
  · by_cases hlate : 1280 ≤ s.ms
    · rw [endMs_front_late p i v u s hlate]
      exact ⟨rfl, rfl, rfl⟩
    · have hwindow : s.timer.window ≠ .opened := h.resolve_right hidle
      simp only [not_or, Bool.not_eq_false, ← ne_eq, Option.ne_none_iff_exists'] at hidle
      obtain ⟨hw, hu, c, hc⟩ := hidle
      exact (endMs_front_interval p i v u s hw hu hc (by omega)).1 (.inl hwindow)

/-- Past the keying span, or where P, I and V do not count, the span's values stand (R22, R26). -/
theorem endMs_front_span_stands
    (h : 960 ≤ s.ms ∨ s.front.whole = false ∨ s.front.unbroken = false ∨ s.config = none) :
    (endMs p i v u s).front.chipSamples = s.front.chipSamples ∧
      (endMs p i v u s).front.early = s.front.early ∧
      (endMs p i v u s).front.prompt = s.front.prompt ∧
      (endMs p i v u s).front.late = s.front.late ∧
      (endMs p i v u s).front.currentSum = s.front.currentSum ∧
      (endMs p i v u s).front.voltageSum = s.front.voltageSum := by
  by_cases hidle : s.front.whole = false ∨ s.front.unbroken = false ∨ s.config = none
  · rw [endMs_front_idle p i v u s hidle]
    exact ⟨rfl, rfl, rfl, rfl, rfl, rfl⟩
  · by_cases hlate : 1280 ≤ s.ms
    · rw [endMs_front_late p i v u s hlate]
      exact ⟨rfl, rfl, rfl, rfl, rfl, rfl⟩
    · have hspan : 960 ≤ s.ms := h.resolve_right hidle
      simp only [not_or, Bool.not_eq_false, ← ne_eq, Option.ne_none_iff_exists'] at hidle
      obtain ⟨hw, hu, c, hc⟩ := hidle
      obtain ⟨hchip, hearly, hprompt, hlateValues, hcurrent, hvoltage⟩ :=
        endMs_front_values p i v u s hw hu hc (by omega)
      rw [chipValues_tail hspan] at hchip hearly hprompt hlateValues
      rw [if_neg (by omega), add_zero] at hcurrent hvoltage
      exact ⟨hchip, hearly, hprompt, hlateValues, hcurrent, hvoltage⟩

end EndMs

end Sys2Proof.Machine

namespace Sys2Proof.Proofs
open Sys2Proof.Machine Sys2Proof.Safety

/-- Settles O10: the front end's and the demand's rules at the end of a millisecond, put together. -/
theorem sampleEndsMillisecond : Obligations.SampleEndsMillisecond := by
  intro p i v u s hheld hwithin
  obtain ⟨low, high, hruns⟩ := endMs_supervisor_eq p i v u s
  obtain ⟨hunbroken, hwhole, hon, hcurrent, hvoltage, hmean⟩ := endMs_front_kept p i v u s
  obtain ⟨hcounted, hlate⟩ := endMs_front_counted p i v u s
  refine ⟨endMs p i v u s, exec_sample hheld hwithin, by simp, by simp, ?_, by rw [hruns], ?_, ?_, ?_, ?_, ?_,
    ?_, hlate, ?_, ?_, ?_, ?_, ?_, endMs_front_interval_closed p i v u s⟩
  · simp [State.eq_iff_fields, endMs]
  · simp only [endMs_fields, countDemand]
    split <;> rfl
  · rw [← samples_eq_decide, ← hwhole]
    dsimp only
    rw [← hunbroken, ← hon, ← hcurrent, ← hvoltage, ← hmean]
  · intro h
    obtain ⟨hchip, hearly, hprompt, hlateValues, -⟩ := endMs_front_span_stands p i v u s h
    exact ⟨hchip, hearly, hprompt, hlateValues⟩
  · intro h
    simp [countDemand_tail h]
  · rintro parts units h rfl rfl
    have hne : s.keying.segments ++ [(s.pins.demand, 20 - s.timer.phase % 20)] ≠ [] := by simp
    obtain ⟨hmem, hlongest⟩ := demandOfMs_spec hne
    simp only [endMs_fields, countDemand_span h, true_and]
    exact ⟨_, rfl, hmem, hlongest⟩
  · intro h
    obtain ⟨hsum, hcount, -⟩ := hcounted h
    refine ⟨?_, hcount⟩
    rw [hsum, Nat.cast_add, supplySample_eq]
  · intro h hw hc
    rw [(hcounted h).2.2]
    simp [hw, hc, Bool.or_assoc]
  · intro h
    by_cases hms : s.ms < 1280
    · rw [(hcounted hms).2.2]
      rcases h with h | h <;> simp [h]
    · exact (hlate (by omega)).2.2
  · intro h hw hu hc
    obtain ⟨c, hc⟩ := Option.isSome_iff_exists.mp hc
    obtain ⟨-, -, -, -, hsumI, hsumV⟩ := endMs_front_values p i v u s hw hu hc (by omega)
    rw [hsumI, hsumV, if_pos h, if_pos h, Nat.cast_add, Nat.cast_add, currentSample_eq, voltageSample_eq]
    exact ⟨rfl, rfl⟩
  · intro h
    obtain ⟨-, -, -, -, hsumI, hsumV⟩ := endMs_front_span_stands p i v u s h
    exact ⟨hsumI, hsumV⟩
  · intro c hc hw hu hms hopen
    obtain ⟨houtside, hinside, hlast⟩ := endMs_front_interval p i v u s hw hu hc hms
    exact ⟨hinside hopen, hlast hopen, fun h => houtside (.inr h)⟩

/-- Settles O11: the chip values of a counting sample, their runs nine samples long. -/
theorem chipValuesAreNineSampleMeans : Obligations.ChipValuesAreNineSampleMeans := by
  intro p i v u c s hheld hspan hwithin hc hw hu hlength
  refine ⟨endMs p i v u s, exec_sample hheld hwithin, ?_⟩
  obtain ⟨hchip, hearly, hprompt, hlate, -⟩ := endMs_front_values p i v u s hw hu hc (by omega)
  rw [hchip, hearly, hprompt, hlate]
  have hseen : ((if s.ms % 15 = 0 then [] else s.front.chipSamples) ++
      [max (-40000) (min 10000 p)]).length = s.ms % 15 + 1 := by
    rcases hlength with h | h
    · simp [h]
    · split <;> simp [*]
  rw [chipValues_span hspan, potentialSample_eq]
  dsimp only
  refine ⟨fun h => ?_, fun h => if_neg h, fun h => ?_, fun h => if_neg h, fun h => ?_,
    fun h => if_neg h, rfl⟩
  · rw [if_pos h, roundMean, hseen, h]
  · rw [if_pos h, roundMean, List.length_drop, hseen, h]
  · rw [if_pos h, roundMean, List.length_drop, hseen, h]

/-- Settles O12, by the division of the magnitude and the sign. -/
theorem roundsToNearestTiesAway : Obligations.RoundsToNearestTiesAway :=
  fun a _ hb => roundDiv_nearest a hb

/-- Settles O13: time has come, so the span's results are formed as they stand. -/
theorem keyingSpanEndForms : Obligations.KeyingSpanEndForms := by
  intro c s hheld hphase hc
  have hexec : exec .keyingSpanEnd s = .next (drive (endSpan s)) := by
    simp [exec, execKeyingSpanEnd, hheld, hphase, runTo_of_le hphase.ge]
  refine ⟨_, hexec, ?_⟩
  cases hu : s.front.unbroken with
  | true =>
    have hspan : endSpan s = formSpan c (s.setKeying (formDemand s.keying)) := by
      simp [endSpan, hu, hc]
    rw [hspan]
    refine ⟨rfl, rfl, rfl, fun _ => ⟨rfl, _, _, rfl, rfl, rfl, fun hlength => ?_⟩, by simp⟩
    exact ⟨corrSum_eq_sum_range hlength, fun r hr => residualTest_iff hlength hr⟩
  | false =>
    have hspan : endSpan s = s.setKeying (formDemand s.keying) := by
      simp [endSpan, hu]
    rw [hspan]
    exact ⟨rfl, rfl, rfl, by simp, fun _ => ⟨rfl, rfl⟩⟩

/-- Settles O14: the decision at its own moment. -/
theorem offWindowDecided : Obligations.OffWindowDecided := by
  intro s hheld hphase hwindow
  have hexec : exec .offWindowDecision s =
      .next (drive (s.setTimer
        { s.timer with window := if windowOpens s then .opened else .absent })) := by
    simp [exec, execOffWindowDecision, hheld, hphase, hwindow, runTo_of_le hphase.ge]
  refine ⟨_, hexec, rfl, rfl, ?_, ?_, ?_, ?_⟩
  · simp only [drive_fields, State.setTimer_fields]
    split <;> simp
  · rw [← windowOpens_iff]
    simp only [drive_fields, State.setTimer_fields]
    split <;> simp [*]
  · simp [pinsNow_offmark, hheld]
  · intro hopen
    exact pinsNow_demand_zero _ (.inr (.inr hopen))

/-- Settles O15: a full window's end captures while an INTERRUPT survey runs, and drops at a full store. -/
theorem windowEndCaptures : Obligations.WindowEndCaptures := by
  intro c s hheld hc hwindow hphase
  have hphase' : s.timer.phase = windowEnd c := hphase
  have hexec : exec .offWindowEnd s =
      .next (drive (captureAtWindowEnd (s.setTimer { s.timer with window := .full }))) := by
    simp [exec, execOffWindowEnd, hc, hheld, hwindow, hphase', runTo_of_le hphase'.ge]
  obtain ⟨capture, latched, heq⟩ := captureAtWindowEnd_eq (s.setTimer { s.timer with window := .full })
  refine ⟨_, hexec, by rw [heq]; rfl, by rw [heq]; simp [pinsNow_offmark], ?_, ?_⟩
  · intro h
    have hnone : captureAtWindowEnd (s.setTimer { s.timer with window := .full }) =
        s.setTimer { s.timer with window := .full } := by
      unfold captureAtWindowEnd
      rcases h with h | h
      · simp [captureContents, h]
      · split <;> simp [h]
    rw [hnone]
    exact ⟨rfl, rfl⟩
  · intro on current residual hu hruns hon hcurrent hresidual
    have hcontents : captureAtWindowEnd (s.setTimer { s.timer with window := .full }) =
        takeCapture
          { sequence := s.capture.nextSequence
            generation := s.survey.generation
            position := s.timer.position
            instantOff :=
              if s.front.overrange || residual then none
              else s.front.instantOff.map InstantOff.value
            onPotential := on
            meanCurrent := current
            disturbed := residual || s.front.overrange
            overrange := s.front.overrange }
          (s.setTimer { s.timer with window := .full }) := by
      simp [captureAtWindowEnd, captureContents, hu, hruns, hon, hcurrent, hresidual]
    rw [hcontents]
    by_cases hroom : s.capture.records.length < 512
    · have htake : ∀ r, takeCapture r (s.setTimer { s.timer with window := .full }) =
          (s.setTimer { s.timer with window := .full }).setCapture
            { s.capture with
              nextSequence := (s.capture.nextSequence + 1) % 65536
              records := s.capture.records ++ [r] } := by
        intro r
        simp [takeCapture, captureLimit, hroom]
      rw [htake]
      exact ⟨rfl, fun _ => ⟨rfl, rfl, rfl⟩, fun h => absurd hroom (by omega)⟩
    · have htake : ∀ r, takeCapture r (s.setTimer { s.timer with window := .full }) =
          ((s.setTimer { s.timer with window := .full }).setCapture
            { s.capture with
              nextSequence := (s.capture.nextSequence + 1) % 65536
              drops := countUp 65535 s.capture.drops }).latch fun a => { a with capdrop := true } := by
        intro r
        simp [takeCapture, captureLimit, hroom]
      rw [htake]
      refine ⟨rfl, fun h => absurd h hroom, fun _ => ⟨rfl, rfl, rfl, ?_⟩⟩
      simp [pinsNow, hheld, Alarms.any]

end Sys2Proof.Proofs
end

section
/-! PROOFS. The cycle end (R1 to R3, R27 to R29, R34 to R50, R59, R75 to R87, R97 to R103, R114, R159, R163): the state the
cycle ended in, what is handed over, and what each block makes of it. -/

namespace Sys2Proof.Machine
open Sys2Proof.Safety

/-! ### The state a cycle ends in -/

/-- The state a cycle ends in: time has run on to its length. -/
def ranOut (s : State) : State := runTo s.timer.length s

theorem runTo_unbroken (t : Nat) (s : State) :
    (runTo t s).front.unbroken = (s.front.unbroken && decide (min (t / 20) 1280 ≤ s.ms)) := by
  unfold runTo State.ms
  split
  · rename_i hle
    have : min (t / 20) 1280 ≤ s.timer.phase / 20 := by omega
    simp [this]
  · simp only [← Nat.not_lt, decide_not]

/-- Time that runs on leaves the samples' values, and of the keying generator all but the segments. -/
theorem runTo_front_kept (t : Nat) (s : State) :
    (runTo t s).front =
        { s.front with
          unbroken := (runTo t s).front.unbroken, whole := (runTo t s).front.whole } ∧
      (runTo t s).keying = { s.keying with segments := (runTo t s).keying.segments } := by
  unfold runTo
  split <;> exact ⟨rfl, rfl⟩

@[simp] theorem ranOut_fields (s : State) :
    (ranOut s).held = s.held ∧ (ranOut s).load = s.load ∧ (ranOut s).lines = s.lines ∧
      (ranOut s).bus = s.bus ∧ (ranOut s).wire = s.wire ∧ (ranOut s).config = s.config ∧
      (ranOut s).correlator = s.correlator ∧ (ranOut s).table = s.table ∧
      (ranOut s).frames = s.frames ∧ (ranOut s).agreement = s.agreement ∧
      (ranOut s).regulation = s.regulation ∧ (ranOut s).survey = s.survey ∧
      (ranOut s).capture = s.capture ∧ (ranOut s).supervisor = s.supervisor ∧
      (ranOut s).service = s.service ∧ (ranOut s).pins = s.pins ∧
      (ranOut s).freeCount = s.freeCount ∧ (ranOut s).pending = s.pending ∧
      (ranOut s).timer.length = s.timer.length ∧ (ranOut s).timer.position = s.timer.position := by
  simp [ranOut]

@[simp] theorem ranOut_values (s : State) :
    (ranOut s).front.unbroken =
        (s.front.unbroken && decide (min (s.timer.length / 20) 1280 ≤ s.ms)) ∧
      (ranOut s).front.early = s.front.early ∧ (ranOut s).front.prompt = s.front.prompt ∧
      (ranOut s).front.late = s.front.late ∧ (ranOut s).front.overrange = s.front.overrange ∧
      (ranOut s).front.instantOff = s.front.instantOff ∧
      (ranOut s).front.meanCurrent = s.front.meanCurrent ∧
      (ranOut s).front.meanVoltage = s.front.meanVoltage ∧
      (ranOut s).front.supplySum = s.front.supplySum ∧
      (ranOut s).front.supplyCount = s.front.supplyCount ∧
      (ranOut s).front.lastMeanS = s.front.lastMeanS ∧
      (ranOut s).keying.keyed = s.keying.keyed ∧ (ranOut s).keying.dataBit = s.keying.dataBit ∧
      (ranOut s).keying.badCount = s.keying.badCount ∧
      (ranOut s).keying.goodCount = s.keying.goodCount ∧
      (ranOut s).keying.stage = s.keying.stage ∧
      (ranOut s).keying.voltageLimit = s.keying.voltageLimit ∧
      (ranOut s).keying.meanDemand = s.keying.meanDemand := by
  obtain ⟨hfront, hkeying⟩ := runTo_front_kept s.timer.length s
  refine ⟨runTo_unbroken _ s, ?_⟩
  unfold ranOut
  rw [hfront, hkeying]
  simp

@[simp] theorem supplyMean_ranOut (s : State) : supplyMean (ranOut s).front = supplyMean s.front := by
  simp [supplyMean]

/-- A cycle that ends before its last sample completed is a broken one (R28). -/
theorem cycleComplete_ranOut (s : State) :
    cycleComplete (ranOut s) =
      (decide (min (s.timer.length / 20) 1280 ≤ s.ms) && cycleComplete s) := by
  simp only [cycleComplete, ranOut_values, ranOut_fields]
  cases s.front.unbroken <;> simp [Bool.and_assoc]

theorem cycleUsable_ranOut (s : State) :
    cycleUsable (ranOut s) = (decide (min (s.timer.length / 20) 1280 ≤ s.ms) && cycleUsable s) := by
  unfold cycleUsable cycleDisturbed cycleMarked
  rw [cycleComplete_ranOut]
  simp only [ranOut_values, ranOut_fields]
  cases decide (min (s.timer.length / 20) 1280 ≤ s.ms) <;> simp

/-! ### The lanes' results (R41 to R43) -/

@[simp] theorem laneResult_code (c : Settings) (position : Nat) (usable : Bool)
    (early prompt late : List Int) (w : Nat) :
    (laneResult c position usable early prompt late w).code = w := by
  unfold laneResult
  dsimp only
  split
  · rfl
  · split <;> rfl

/-- The results handed over are those of the lanes open since the cycle's start, code by code. -/
theorem find?_laneResults (c : Settings) (s : State) (w : Nat) :
    ((laneResults c s).find? fun x => decide (x.code = w)) =
      if some w ∈ s.correlator.lanes then
        some (laneResult c s.timer.position (cycleUsable s) s.front.early s.front.prompt
          s.front.late w)
      else none := by
  unfold laneResults
  have hmem : some w ∈ s.correlator.lanes ↔ w ∈ s.correlator.lanes.filterMap id := by simp
  simp only [hmem]
  generalize s.correlator.lanes.filterMap id = codes
  induction codes with
  | nil => simp
  | cons v codes ih =>
    rw [List.map_cons, List.find?_cons]
    by_cases hv : v = w
    · simp [hv]
    · simp only [laneResult_code, hv, decide_false, ih, List.mem_cons, Ne.symm hv, false_or]

theorem any_laneResults (c : Settings) (s : State) (w : Nat) :
    ((laneResults c s).any fun x => decide (x.code = w)) =
      decide (some w ∈ s.correlator.lanes) := by
  rw [← List.isSome_find?, find?_laneResults]
  split <;> simp [*]

@[simp] theorem cycleReport_fields (c : Settings) (s : State) :
    (cycleReport c s).position = s.timer.position ∧
      (cycleReport c s).complete = cycleComplete s ∧
      (cycleReport c s).disturbed = cycleDisturbed s ∧
      (cycleReport c s).marked = cycleMarked s ∧
      (cycleReport c s).decodes = stationDecodes s ∧
      (cycleReport c s).results = laneResults c s ∧
      (cycleReport c s).self = selfResult c s ∧ (cycleReport c s).search = searchResult c s ∧
      (cycleReport c s).instantOff = (if cycleComplete s then s.front.instantOff else none) ∧
      (cycleReport c s).meanCurrent = (if cycleComplete s then s.front.meanCurrent else none) ∧
      (cycleReport c s).meanVoltage = (if cycleComplete s then s.front.meanVoltage else none) := by
  simp [cycleReport]

/-! ### The weighted error (R75, R76) -/

/-- A rounded quotient lies within a bound that the dividend keeps. -/
theorem natAbs_roundDiv_le {a : Int} {b k : Nat} (h : a.natAbs ≤ k * b) :
    (roundDiv a b).natAbs ≤ k := by
  have hquot : (2 * a.natAbs + b) / (2 * b) ≤ k := by
    rcases Nat.eq_zero_or_pos b with rfl | hb
    · simp
    · refine Nat.lt_succ_iff.mp ((Nat.div_lt_iff_lt_mul (by omega)).mpr ?_)
      rw [show k.succ * (2 * b) = 2 * (k * b) + 2 * b by rw [Nat.succ_eq_add_one]; ring]
      omega
  unfold roundDiv
  rw [Int.natAbs_mul, Int.natAbs_natCast]
  calc a.sign.natAbs * ((2 * a.natAbs + b) / (2 * b))
      ≤ 1 * ((2 * a.natAbs + b) / (2 * b)) := Nat.mul_le_mul_right _ (by
        rcases lt_trichotomy a 0 with h | h | h <;> simp [h, Int.sign_eq_one_of_pos, Int.sign_eq_neg_one_of_neg])
    _ ≤ k := by rwa [one_mul]

theorem natAbs_timingError_le {xe xl e : Int} (h : timingError xe xl = some e) : e.natAbs ≤ 60 := by
  unfold timingError at h
  split at h
  · simp at h
  · obtain rfl := Option.some.inj h
    apply natAbs_roundDiv_le
    omega

theorem natAbs_timing_le {c : Settings} {position : Nat} {usable : Bool}
    {early prompt late : List Int} {w : Nat} {x : Nat × Int}
    (h : (laneResult c position usable early prompt late w).timing = some x) : x.2.natAbs ≤ 60 := by
  unfold laneResult at h
  dsimp only at h
  split at h
  · simp at h
  · split at h
    · simp at h
    · obtain ⟨e, he, rfl⟩ := Option.map_eq_some_iff.mp h
      exact natAbs_timingError_le he

theorem natAbs_weightedError_le {xs : List (Nat × Int)} (h : ∀ x ∈ xs, x.2.natAbs ≤ 60) {e : Int}
    (he : weightedError xs = some e) : e.natAbs ≤ 60 := by
  have hsum : (xs.map fun x => (x.1 : Int) * x.2).sum.natAbs ≤ 60 * (xs.map Prod.fst).sum := by
    clear he
    induction xs with
    | nil => simp
    | cons x xs ih =>
      have hx : ((x.1 : Int) * x.2).natAbs ≤ 60 * x.1 := by
        rw [Int.natAbs_mul, Int.natAbs_natCast, mul_comm]
        exact Nat.mul_le_mul_right _ (h x List.mem_cons_self)
      have hrest := ih fun y hy => h y (List.mem_cons_of_mem x hy)
      simp only [List.map_cons, List.sum_cons]
      omega
  unfold weightedError at he
  split at he
  · simp at he
  · obtain rfl := Option.some.inj he
    exact natAbs_roundDiv_le hsum

/-- Half the weighted error moves the length by 30 units at most (R75, R76). -/
theorem adjustmentOf_of_le {e : Option Int} (h : ∀ x, e = some x → x.natAbs ≤ 60) :
    -30 ≤ adjustmentOf e ∧ adjustmentOf e ≤ 30 := by
  cases e with
  | none => simp [adjustmentOf]
  | some x =>
    have hhalf : (roundDiv x 2).natAbs ≤ 30 := natAbs_roundDiv_le (by have := h x rfl; omega)
    unfold adjustmentOf clampInt
    dsimp only
    omega

theorem natAbs_cycleError_le {c : Settings} {s0 s : State} {e : Int}
    (h : cycleError (cycleReport c s0) s = some e) : e.natAbs ≤ 60 := by
  refine natAbs_weightedError_le (fun x hx => ?_) h
  simp only [contributions, List.mem_filterMap, cycleReport_fields, laneResults, List.mem_map] at hx
  obtain ⟨r, ⟨w, -, rfl⟩, htiming⟩ := hx
  split at htiming
  · exact natAbs_timing_le htiming
  · simp at htiming

/-- Where every entry is good, the contributions are those of the lanes whose codes the table holds (R75). -/
theorem cycleError_of_good {c : Settings} {s0 s : State}
    (h : ∀ e ∈ entriesOf s.table.slots, e.parityGood = true) :
    cycleError (cycleReport c s0) s =
      weightedError ((s0.correlator.lanes.filterMap id).filterMap fun w =>
        if w ∈ codesOf s.table.slots then
          (laneResult c s0.timer.position (cycleUsable s0) s0.front.early s0.front.prompt
            s0.front.late w).timing
        else none) := by
  unfold cycleError contributions
  rw [(cycleReport_fields c s0).2.2.2.2.2.1, laneResults, List.filterMap_map]
  congr 1
  apply List.filterMap_congr
  intro w _
  have hheld : ((entriesOf s.table.slots).any fun e =>
      decide (e.code = w) &&
        (e.parityGood || !Config.removalBeforeWeighing s.freeCount)) =
      decide (w ∈ codesOf s.table.slots) := by
    rw [Bool.eq_iff_iff, List.any_eq_true, decide_eq_true_eq, mem_codesOf]
    refine exists_congr fun e => and_congr_right fun he => ?_
    simp [h e he]
  simp only [Function.comp_apply, laneResult_code, hheld, decide_eq_true_eq]

/-- A cycle whose figures are not usable brings no error (R43, R75). -/
theorem cycleError_of_unusable {c : Settings} {s0 s : State} (h : cycleUsable s0 = false) :
    cycleError (cycleReport c s0) s = none := by
  have hempty : contributions (Config.removalBeforeWeighing s.freeCount) s.table.slots
      (cycleReport c s0).results = [] := by
    rw [contributions, List.filterMap_eq_nil_iff]
    intro r hr
    simp only [cycleReport_fields, laneResults, List.mem_map] at hr
    obtain ⟨w, -, rfl⟩ := hr
    simp [laneResult, h]
  rw [cycleError, hempty]
  rfl

/-! ### The blocks -/

/-- The comparisons change the counts, the STAGE cause and the voltage-limit flag alone (R16, R17). -/
@[simp] theorem driveComparisons_kept (c : Settings) (r : CycleReport) (k : Keying) :
    (driveComparisons c r k).dataBit = k.dataBit ∧ (driveComparisons c r k).keyed = k.keyed ∧
      (driveComparisons c r k).demandSum = k.demandSum ∧
      (driveComparisons c r k).demandMs = k.demandMs ∧
      (driveComparisons c r k).segments = k.segments ∧
      (driveComparisons c r k).meanDemand = k.meanDemand := by
  have hstep : ∀ bad, (stageStep bad k).dataBit = k.dataBit ∧ (stageStep bad k).keyed = k.keyed ∧
      (stageStep bad k).demandSum = k.demandSum ∧ (stageStep bad k).demandMs = k.demandMs ∧
      (stageStep bad k).segments = k.segments ∧ (stageStep bad k).meanDemand = k.meanDemand := by
    intro bad
    unfold stageStep
    split <;> (try split) <;> simp
  unfold driveComparisons
  dsimp only
  split <;> split <;> simp [hstep]

theorem gatherSample_eq (c : Settings) (disturbed : Bool) (position : Nat)
    (o : Option InstantOff) (r : Regulation) :
    gatherSample c disturbed position o r =
      { r with
        sampleSum := (gatherSample c disturbed position o r).sampleSum
        sampleCount := (gatherSample c disturbed position o r).sampleCount } := by
  unfold gatherSample
  split
  · split <;> rfl
  · rfl

/-- A cycle end of an unlocked station (R77). -/
theorem lockStep_of_unlocked {a : Agreement} (h : a.lock = .unlocked) :
    lockStep none a = ({ a with acquisition := 0 }, false) ∧
      ∀ e, lockStep (some e) a =
        (if e.natAbs ≤ 10 then
          if a.acquisition + 1 = 8 then { a with lock := .locked, acquisition := 0, loss := 0 }
          else { a with acquisition := a.acquisition + 1 }
         else { a with acquisition := 0 }, false) := by
  refine ⟨by simp [lockStep, h], fun e => ?_⟩
  simp only [lockStep, h]
  split_ifs <;> rfl

/-- A cycle end of a locked station (R78). -/
theorem lockStep_of_locked {a : Agreement} (h : a.lock = .locked) :
    lockStep none a = (a, false) ∧
      ∀ e, lockStep (some e) a =
        if 30 < e.natAbs then
          if a.loss + 1 = 16 then ({ a with lock := .unlocked, acquisition := 0, loss := 0 }, true)
          else ({ a with loss := a.loss + 1 }, false)
        else ({ a with loss := 0 }, false) := by
  refine ⟨by simp [lockStep, h], fun e => ?_⟩
  simp only [lockStep, h]

/-- A cycle end of a SOLITARY station (R79). -/
theorem lockStep_of_solitary {a : Agreement} (h : a.lock = .solitary) (e : Option Int) :
    lockStep e a = (a, false) := by
  cases e <;> simp [lockStep, h]

/-- The lock is lost exactly where a locked station becomes UNLOCKED, at its sixteenth large error (R78). -/
theorem lockStep_lost_iff (e : Option Int) (a : Agreement) :
    ((lockStep e a).2 = true ↔ a.lock = .locked ∧ (lockStep e a).1.lock = .unlocked) ∧
      ((lockStep e a).2 = true → a.loss = 15) := by
  cases hlock : a.lock with
  | unlocked =>
    obtain ⟨hnone, hsome⟩ := lockStep_of_unlocked hlock
    cases e <;> simp [hnone, hsome]
  | locked =>
    obtain ⟨hnone, hsome⟩ := lockStep_of_locked hlock
    cases e with
    | none => simp [hnone, hlock]
    | some e =>
      rw [hsome]
      split_ifs with hlarge hlast
      · simpa using (by omega : a.loss = 15)
      · simp [hlock]
      · simp [hlock]
  | solitary => simp [lockStep_of_solitary hlock]

theorem lockStep_relock (e : Option Int) (a : Agreement) : (lockStep e a).1.relock = a.relock := by
  cases hlock : a.lock with
  | unlocked =>
    obtain ⟨hnone, hsome⟩ := lockStep_of_unlocked hlock
    cases e with
    | none => simp [hnone]
    | some e =>
      rw [hsome]
      split_ifs <;> rfl
  | locked =>
    obtain ⟨hnone, hsome⟩ := lockStep_of_locked hlock
    cases e with
    | none => simp [hnone]
    | some e =>
      rw [hsome]
      split_ifs <;> rfl
  | solitary => simp [lockStep_of_solitary hlock]

/-- Phase agreement at a cycle end: the lock's step, but in FAULT, and the relock span (R77 to R81, log 13). -/
theorem agreeAtCycleEnd_eq (r : CycleReport) (e : Option Int) (x : Condition) (a : Agreement) :
    agreeAtCycleEnd r e x a =
      if x = .fault then ({ a with relock := if r.marked then a.relock - 1 else a.relock }, false)
      else
        ({ (lockStep e a).1 with relock := if r.marked then a.relock - 1 else a.relock },
          (lockStep e a).2) := by
  unfold agreeAtCycleEnd
  split_ifs <;> simp [lockStep_relock]

/-- The lock is lost exactly where a locked station becomes UNLOCKED (R78). -/
theorem agreeAtCycleEnd_lost_iff (r : CycleReport) (e : Option Int) (x : Condition) (a : Agreement) :
    (agreeAtCycleEnd r e x a).2 = true ↔
      a.lock = .locked ∧ (agreeAtCycleEnd r e x a).1.lock = .unlocked := by
  rw [agreeAtCycleEnd_eq]
  split
  · simp only [Bool.false_eq_true, false_iff, not_and]
    intro h
    simp [h]
  · exact (lockStep_lost_iff e a).1

/-- No lock is lost before the sixteenth large error (R78). -/
theorem agreeAtCycleEnd_not_lost {r : CycleReport} {e : Option Int} {x : Condition} {a : Agreement}
    (h : a.lock = .locked → a.loss ≠ 15) : (agreeAtCycleEnd r e x a).2 = false := by
  rw [Bool.eq_false_iff]
  intro hlost
  rw [agreeAtCycleEnd_eq] at hlost
  split at hlost
  · simp at hlost
  · obtain ⟨hiff, hlast⟩ := lockStep_lost_iff e a
    exact h (hiff.mp hlost).1 (hlast hlost)

theorem agreeAtCycleEnd_relock (r : CycleReport) (e : Option Int) (x : Condition) (a : Agreement) :
    (agreeAtCycleEnd r e x a).1.relock = if r.marked then a.relock - 1 else a.relock := by
  rw [agreeAtCycleEnd_eq]
  split <;> rfl

end Sys2Proof.Machine
end

section
/-! PROOFS. The cycle end as a whole: what the next cycle holds, of a device with a configuration and of any. -/

namespace Sys2Proof.Machine
open Sys2Proof.Safety

/-- The state after a cycle end, before its pins are driven. -/
def cycleEnded (inputs : CycleInputs) (s : State) : State := endCycle inputs (ranOut s)

theorem exec_cycleEnded (inputs : CycleInputs) {s : State} (h : s.held = false) :
    exec (.cycleEnd inputs) s = .next (drive (cycleEnded inputs s)) :=
  exec_cycleEnd inputs h

/-- What is handed over at a cycle end. -/
def reportAt (c : Settings) (s : State) : CycleReport := cycleReport c (ranOut s)

/-- The weighted error of a cycle end (R75). -/
def errorAt (c : Settings) (inputs : CycleInputs) (s : State) : Option Int :=
  cycleError (reportAt c s) (endedState inputs (ranOut s))

/-- The blocks' work at a cycle end, and what was heard. -/
def blocksAt (c : Settings) (inputs : CycleInputs) (s : State) : State × Heard :=
  ((blocksAtCycleEnd c (reportAt c s) (endedState inputs (ranOut s))).1,
    (blocksAtCycleEnd c (reportAt c s) (endedState inputs (ranOut s))).2.1)

theorem cycleEnded_of_some {inputs : CycleInputs} {s : State} {c : Settings}
    (h : s.config = some c) :
    cycleEnded inputs s =
      closeCycle inputs (ranOut s) (blocksAt c inputs s).2 (errorAt c inputs s)
        (blocksAt c inputs s).1 :=
  endCycle_of_some (by simpa using h)

theorem cycleEnded_of_none {inputs : CycleInputs} {s : State} (h : s.config = none) :
    cycleEnded inputs s =
      closeCycle inputs (ranOut s) { accepted := [], aligned := [], realign := false } none
        (endedState inputs (ranOut s)) :=
  endCycle_of_none (by simpa using h)

theorem reportAt_fields (c : Settings) (s : State) :
    (reportAt c s).position = s.timer.position ∧
      (reportAt c s).complete = cycleComplete (ranOut s) ∧
      (reportAt c s).disturbed = cycleDisturbed (ranOut s) ∧
      (reportAt c s).marked = cycleMarked (ranOut s) ∧
      (reportAt c s).decodes = stationDecodes s ∧
      (reportAt c s).results = laneResults c (ranOut s) ∧
      (reportAt c s).self = selfResult c (ranOut s) ∧
      (reportAt c s).search = searchResult c (ranOut s) ∧
      (reportAt c s).instantOff =
        (if cycleComplete (ranOut s) then s.front.instantOff else none) ∧
      (reportAt c s).meanCurrent =
        (if cycleComplete (ranOut s) then s.front.meanCurrent else none) ∧
      (reportAt c s).meanVoltage =
        (if cycleComplete (ranOut s) then s.front.meanVoltage else none) := by
  simp [reportAt, stationDecodes]

theorem errorAt_le {c : Settings} {inputs : CycleInputs} {s : State} (x : Int)
    (h : errorAt c inputs s = some x) : x.natAbs ≤ 60 :=
  natAbs_cycleError_le h

/-- What each block of a configured device holds after a cycle end. -/
theorem cycleEnded_blocks {c : Settings} (inputs : CycleInputs) {s : State}
    (hc : s.config = some c) :
    (cycleEnded inputs s).timer.length = (25600 + adjustmentOf (errorAt c inputs s)).toNat ∧
      (cycleEnded inputs s).agreement =
        (agreeAtCycleEnd (reportAt c s) (errorAt c inputs s) s.supervisor.condition
          s.agreement).1 ∧
      (cycleEnded inputs s).regulation =
        gatherSample c (reportAt c s).disturbed s.timer.position (reportAt c s).instantOff
          s.regulation ∧
      (cycleEnded inputs s).keying.badCount =
        (driveComparisons c (reportAt c s) (ranOut s).keying).badCount ∧
      (cycleEnded inputs s).keying.goodCount =
        (driveComparisons c (reportAt c s) (ranOut s).keying).goodCount ∧
      (cycleEnded inputs s).keying.stage =
        (driveComparisons c (reportAt c s) (ranOut s).keying).stage ∧
      (cycleEnded inputs s).keying.voltageLimit =
        (driveComparisons c (reportAt c s) (ranOut s).keying).voltageLimit ∧
      (cycleEnded inputs s).supervisor.working =
        (s.supervisor.working &&
          !(agreeAtCycleEnd (reportAt c s) (errorAt c inputs s) s.supervisor.condition
            s.agreement).2) ∧
      (cycleEnded inputs s).supervisor.alarms.stage =
        (s.supervisor.alarms.stage ||
          ((driveComparisons c (reportAt c s) (ranOut s).keying).stage && !s.keying.stage)) := by
  rw [cycleEnded_of_some hc, closeCycle_keying, ← (reportAt_fields c s).1]
  simp [blocksAt, startedTable, readAll, settledCycle, errorAt, lockLost]

theorem cycleEnded_sums {c : Settings} (inputs : CycleInputs) {s : State}
    (hc : s.config = some c) :
    (cycleEnded inputs s).correlator.selfSum =
        s.correlator.selfSum + (reportAt c s).self.getD 0 ∧
      (cycleEnded inputs s).correlator.selfCount =
        s.correlator.selfCount + (if (reportAt c s).self.isSome then 1 else 0) ∧
      (cycleEnded inputs s).correlator.dwellSum =
        s.correlator.dwellSum + (reportAt c s).search.getD 0 ∧
      (cycleEnded inputs s).correlator.dwellCount =
        s.correlator.dwellCount + (if (reportAt c s).search.isSome then 1 else 0) ∧
      (cycleEnded inputs s).correlator.waiting =
        (s.correlator.waiting &&
          !((reportAt c s).marked && decide (s.agreement.relock = 1))) := by
  obtain ⟨lanes, hcorrelator⟩ :=
    blocksAtCycleEnd_correlator c (reportAt c s) (endedState inputs (ranOut s))
  rw [cycleEnded_of_some hc, closeCycle_correlator, blocksAt, hcorrelator]
  simp

/-- A device without a configuration ends its cycles with every block as it was. -/
theorem cycleEnded_unconfigured (inputs : CycleInputs) {s : State} (hc : s.config = none) :
    (cycleEnded inputs s).timer.length = 25600 ∧
      (cycleEnded inputs s).agreement = s.agreement ∧
      (cycleEnded inputs s).regulation = s.regulation ∧
      (cycleEnded inputs s).keying.badCount = s.keying.badCount ∧
      (cycleEnded inputs s).keying.goodCount = s.keying.goodCount ∧
      (cycleEnded inputs s).keying.stage = s.keying.stage ∧
      (cycleEnded inputs s).keying.voltageLimit = s.keying.voltageLimit ∧
      (cycleEnded inputs s).supervisor.working = s.supervisor.working ∧
      (cycleEnded inputs s).correlator.selfSum = s.correlator.selfSum ∧
      (cycleEnded inputs s).correlator.selfCount = s.correlator.selfCount ∧
      (cycleEnded inputs s).correlator.dwellSum = s.correlator.dwellSum ∧
      (cycleEnded inputs s).correlator.dwellCount = s.correlator.dwellCount ∧
      (cycleEnded inputs s).correlator.waiting = s.correlator.waiting := by
  rw [cycleEnded_of_none hc, closeCycle_keying, closeCycle_correlator]
  simp [startedTable, readAll, settledCycle, adjustmentOf]

/-- The new cycle's front end is a cleared one (R27, R29). -/
theorem cycleEnded_front (inputs : CycleInputs) (s : State) :
    (cycleEnded inputs s).front =
      clearFront (supplyMean s.front) (cycleEnded inputs s).supervisor.condition.samples
        s.front := by
  have hclear : ∀ f : FrontEnd, f.lastMeanS = s.front.lastMeanS → ∀ m b,
      clearFront m b f = clearFront m b s.front := fun f hf m b => by simp [clearFront, hf]
  cases hc : s.config with
  | none =>
    rw [cycleEnded_of_none hc, closeCycle_front, closeCycle_supervisor]
    simp [startedTable, readAll, hclear]
  | some c =>
    rw [cycleEnded_of_some hc, closeCycle_front, closeCycle_supervisor]
    simp [startedTable, readAll, hclear, blocksAt]

/-- The record of a cycle end, whatever the configuration. -/
theorem cycleEnded_edge (inputs : CycleInputs) (s : State) :
    ∃ heard : Heard,
      (cycleEnded inputs s).edge =
        some
          { ended := s.timer.position
            boundary := boundaryOf s.timer.position heard.realign
            started := (cycleEnded inputs s).timer.position
            dwellDue :=
              dwellEnds s.config.isSome s.correlator.waiting s.timer.position
                (boundaryOf s.timer.position heard.realign)
            offer := none
            accepted := heard.accepted
            aligned := heard.aligned
            meanS := supplyMean s.front
            warnDue :=
              warnLeft inputs s.config.isSome (boundaryOf s.timer.position heard.realign)
                (supplyMean s.front)
            endedCodes := s.correlator.startCodes } ∧
      (cycleEnded inputs s).timer.position =
        (if heard.realign then 0 else (s.timer.position + 1) % 32) ∧
      heard =
        (match s.config with
         | none => { accepted := [], aligned := [], realign := false }
         | some c => (blocksAt c inputs s).2) := by
  cases hc : s.config with
  | none =>
    rw [cycleEnded_of_none hc]
    exact ⟨_, by simp [boundaryAt, warnLeftAt, hc], by simp [nextPosition], rfl⟩
  | some c =>
    rw [cycleEnded_of_some hc]
    exact ⟨_, by simp [boundaryAt, warnLeftAt, hc], by simp [nextPosition], rfl⟩

/-- The warn flag and the SUPPLY latch after a cycle end: its test made, or left to a boundary (R161, R163). -/
theorem cycleEnded_warn (inputs : CycleInputs) (s : State) {g : CycleEdge}
    (hg : (cycleEnded inputs s).edge = some g) :
    (cycleEnded inputs s).supervisor.warn =
        (takeWarn (if g.warnDue.isSome then none else supplyMean s.front) s).supervisor.warn ∧
      (cycleEnded inputs s).supervisor.alarms.supply =
        (takeWarn (if g.warnDue.isSome then none else supplyMean s.front) s).supervisor.alarms.supply := by
  have hwarn : ∀ (m : Option Nat) (w : State), w.config = s.config →
      w.supervisor.warn = s.supervisor.warn →
      w.supervisor.alarms.supply = s.supervisor.alarms.supply →
      (takeWarn m w).supervisor.warn = (takeWarn m s).supervisor.warn ∧
        (takeWarn m w).supervisor.alarms.supply = (takeWarn m s).supervisor.alarms.supply := by
    intro m w hconfig hw hsupply
    cases hc : s.config with
    | none => simp [takeWarn, hconfig, hc, hw, hsupply]
    | some c =>
      cases m with
      | none => simp [hw, hsupply]
      | some m => simp [takeWarn_flag m hc, takeWarn_flag m (hconfig.trans hc), hw, hsupply]
  cases hc : s.config with
  | none =>
    rw [cycleEnded_of_none hc] at hg ⊢
    simp only [closeCycle_fields, Option.some.injEq] at hg
    subst hg
    simpa [startedTable, readAll, settledCycle] using
      hwarn _ (endedState inputs (ranOut s)) (by simp) (by simp) (by simp)
  | some c =>
    rw [cycleEnded_of_some hc] at hg ⊢
    simp only [closeCycle_fields, Option.some.injEq] at hg
    subst hg
    simpa [startedTable, readAll, settledCycle] using
      hwarn _ (blocksAt c inputs s).1 (by simp [blocksAt]) (by simp [blocksAt]) (by simp [blocksAt])

/-- The condition after a cycle end is the one its facts give (R152). -/
theorem cycleEnded_condition (inputs : CycleInputs) (s : State) :
    (cycleEnded inputs s).supervisor.condition =
      conditionOf s.config.isSome (cycleEnded inputs s).supervisor := by
  have h := (factsAgree_endCycle inputs (ranOut s)).1
  simpa [cycleEnded] using h

/-! ### A complete cycle (R28, R39) -/

theorem cycleComplete_of {s : State} {x : Int} {disturbed : Bool}
    (hsamples : min (s.timer.length / 20) 1280 ≤ s.ms) (hu : s.front.unbroken = true)
    (hx : s.correlator.xpSelf = some x) (hr : s.correlator.residual = some disturbed) :
    cycleComplete (ranOut s) = true := by
  simp [cycleComplete, hsamples, hu, hx, hr]

theorem cycleUsable_of_complete {s : State} (h : cycleComplete (ranOut s) = true) :
    cycleUsable (ranOut s) =
      (!(s.correlator.residual.getD false || s.front.overrange) &&
        decide (s.agreement.relock = 0)) := by
  have hrelock : (!decide (0 < s.agreement.relock)) = decide (s.agreement.relock = 0) := by
    rw [← decide_not, decide_eq_decide]
    omega
  simp only [cycleUsable, cycleDisturbed, cycleMarked, h, Bool.true_and, ranOut_fields,
    ranOut_values, hrelock]

theorem cycleComplete_of_broken {s : State} (h : s.front.unbroken = false) :
    cycleComplete (ranOut s) = false := by
  simp [cycleComplete, h]

/-- An incomplete cycle hands over no figure, no sample and no mean (R28, R29, R43). -/
theorem reportAt_of_incomplete (c : Settings) {s : State} (h : cycleComplete (ranOut s) = false) :
    (reportAt c s).marked = false ∧ (reportAt c s).self = none ∧ (reportAt c s).search = none ∧
      (reportAt c s).instantOff = none ∧ (reportAt c s).meanCurrent = none ∧
      (reportAt c s).meanVoltage = none ∧ ∀ inputs, errorAt c inputs s = none := by
  have husable : cycleUsable (ranOut s) = false := by simp [cycleUsable, h]
  simp only [reportAt_fields, h, selfResult, searchResult, cycleMarked, husable, Bool.false_and,
    Bool.false_eq_true, if_false, true_and]
  exact fun inputs => cycleError_of_unusable husable

end Sys2Proof.Machine
end

section
/-! PROOFS. The statements of the cycle end but its table's: broken and complete cycles, the STAGE comparison, the supply
monitor and the lock. -/

namespace Sys2Proof.Machine
open Sys2Proof.Safety

/-! ### The STAGE comparison (R16, R17) -/

theorem stageBad_eq (current : Nat) (demand : Int) :
    stageBad current demand = decide (demand + 1000 < 5 * |(current : Int) - demand|) := by
  rw [stageBad, Int.natCast_natAbs]

/-- The comparison of a cycle with both means, and the voltage-limit flag (R16, R17). -/
theorem driveComparisons_of_means {c : Settings} {r : CycleReport} {k : Keying} {current : Nat}
    {demand : Int} (hi : r.meanCurrent = some current) (hd : k.meanDemand = some demand) :
    (driveComparisons c r k).badCount = (stageStep (stageBad current demand) k).badCount ∧
      (driveComparisons c r k).goodCount = (stageStep (stageBad current demand) k).goodCount ∧
      (driveComparisons c r k).stage = (stageStep (stageBad current demand) k).stage ∧
      ∀ v, r.meanVoltage = some v →
        (driveComparisons c r k).voltageLimit = decide (c.vMax ≤ v) := by
  unfold driveComparisons
  rw [hi, hd]
  cases r.meanVoltage <;> simp

/-- A cycle that hands over no mean changes nothing of the output drive (R28). -/
theorem driveComparisons_of_none {c : Settings} {r : CycleReport} {k : Keying}
    (hi : r.meanCurrent = none) (hv : r.meanVoltage = none) : driveComparisons c r k = k := by
  simp [driveComparisons, hi, hv]

/-! ### The lock, over several cycle ends (R77, R78) -/

/-- Small errors of an unlocked station, short of the eighth, are counted. -/
theorem foldl_lockStep_small (errors : List Int) (a : Agreement) (h : a.lock = .unlocked)
    (hsmall : ∀ e ∈ errors, e.natAbs ≤ 10) (hcount : a.acquisition + errors.length < 8) :
    errors.foldl (fun a e => (lockStep (some e) a).1) a =
      { a with acquisition := a.acquisition + errors.length } := by
  induction errors generalizing a with
  | nil => simp
  | cons e errors ih =>
    rw [List.length_cons] at hcount
    have hstep : (lockStep (some e) a).1 = { a with acquisition := a.acquisition + 1 } := by
      rw [(lockStep_of_unlocked h).2, if_pos (hsmall e List.mem_cons_self), if_neg (by omega)]
    rw [List.foldl_cons, hstep]
    refine (ih { a with acquisition := a.acquisition + 1 } h
      (fun x hx => hsmall x (List.mem_cons_of_mem e hx)) (by dsimp only; omega)).trans ?_
    simp only [List.length_cons, Agreement.mk.injEq, true_and, and_true]
    omega

/-- A locked station stays so through small errors. -/
theorem foldl_lockStep_locked (errors : List Int) (a : Agreement) (h : a.lock = .locked)
    (hsmall : ∀ e ∈ errors, e.natAbs ≤ 10) :
    (errors.foldl (fun a e => (lockStep (some e) a).1) a).lock = .locked := by
  induction errors generalizing a with
  | nil => exact h
  | cons e errors ih =>
    have he := hsmall e List.mem_cons_self
    refine ih _ ?_ fun x hx => hsmall x (List.mem_cons_of_mem e hx)
    dsimp only
    rw [(lockStep_of_locked h).2, if_neg (by omega)]
    exact h

theorem foldl_lockStep_eight (errors : List Int) (a : Agreement) (h : a.lock = .unlocked)
    (hsmall : ∀ e ∈ errors, e.natAbs ≤ 10) (hcount : 8 ≤ a.acquisition + errors.length)
    (hbelow : a.acquisition < 8) :
    (errors.foldl (fun a e => (lockStep (some e) a).1) a).lock = .locked := by
  induction errors generalizing a with
  | nil => simp at hcount; omega
  | cons e errors ih =>
    have he := hsmall e List.mem_cons_self
    have hrest : ∀ x ∈ errors, x.natAbs ≤ 10 := fun x hx => hsmall x (List.mem_cons_of_mem e hx)
    rw [List.length_cons] at hcount
    rw [List.foldl_cons, (lockStep_of_unlocked h).2, if_pos he]
    split
    · exact foldl_lockStep_locked errors _ rfl hrest
    · exact ih _ h hrest (by dsimp only; omega) (by dsimp only; omega)

/-- Large errors of a locked station, short of the sixteenth, are counted; cycle ends without an error are not. -/
theorem foldl_lockStep_large (errors : List (Option Int)) (a : Agreement) (h : a.lock = .locked)
    (hlarge : ∀ e ∈ errors, ∀ x, e = some x → 30 < x.natAbs)
    (hcount : a.loss + (errors.filter Option.isSome).length < 16) :
    errors.foldl (fun a e => (lockStep e a).1) a =
      { a with loss := a.loss + (errors.filter Option.isSome).length } := by
  induction errors generalizing a with
  | nil => simp
  | cons e errors ih =>
    have hrest : ∀ e ∈ errors, ∀ x, e = some x → 30 < x.natAbs :=
      fun y hy => hlarge y (List.mem_cons_of_mem e hy)
    cases e with
    | none =>
      simp only [List.filter_cons, Option.isSome_none, Bool.false_eq_true, if_false] at hcount ⊢
      rw [List.foldl_cons, (lockStep_of_locked h).1, ih a h hrest hcount]
    | some e =>
      have he := hlarge _ List.mem_cons_self e rfl
      simp only [List.filter_cons, Option.isSome_some, if_true, List.length_cons] at hcount ⊢
      rw [List.foldl_cons, (lockStep_of_locked h).2, if_pos he, if_neg (by omega)]
      refine (ih { a with loss := a.loss + 1 } h hrest (by dsimp only; omega)).trans ?_
      simp only [Agreement.mk.injEq, true_and, and_true]
      omega

/-- An unlocked station stays so through large errors and cycle ends without one. -/
theorem foldl_lockStep_unlocked (errors : List (Option Int)) (a : Agreement)
    (h : a.lock = .unlocked) (hlarge : ∀ e ∈ errors, ∀ x, e = some x → 30 < x.natAbs) :
    (errors.foldl (fun a e => (lockStep e a).1) a).lock = .unlocked := by
  induction errors generalizing a with
  | nil => exact h
  | cons e errors ih =>
    refine ih _ ?_ fun y hy => hlarge y (List.mem_cons_of_mem e hy)
    dsimp only
    cases e with
    | none => rw [(lockStep_of_unlocked h).1]; exact h
    | some e =>
      have he := hlarge _ List.mem_cons_self e rfl
      rw [(lockStep_of_unlocked h).2, if_neg (by omega)]
      exact h

theorem foldl_lockStep_sixteen (errors : List (Option Int)) (a : Agreement) (h : a.lock = .locked)
    (hlarge : ∀ e ∈ errors, ∀ x, e = some x → 30 < x.natAbs)
    (hcount : 16 ≤ a.loss + (errors.filter Option.isSome).length) (hbelow : a.loss < 16) :
    (errors.foldl (fun a e => (lockStep e a).1) a).lock = .unlocked := by
  induction errors generalizing a with
  | nil => simp at hcount; omega
  | cons e errors ih =>
    have hrest : ∀ e ∈ errors, ∀ x, e = some x → 30 < x.natAbs :=
      fun y hy => hlarge y (List.mem_cons_of_mem e hy)
    cases e with
    | none =>
      rw [List.foldl_cons, (lockStep_of_locked h).1]
      exact ih a h hrest (by simpa using hcount) hbelow
    | some e =>
      have he := hlarge _ List.mem_cons_self e rfl
      simp only [List.filter_cons, Option.isSome_some, if_true, List.length_cons] at hcount
      rw [List.foldl_cons, (lockStep_of_locked h).2, if_pos he]
      split
      · exact foldl_lockStep_unlocked errors _ rfl hrest
      · exact ih _ h hrest (by dsimp only; omega) (by dsimp only; omega)

/-! ### The supply runs and the warn test (R163 to R165) -/

theorem supplySample_levels (u : Int) :
    (supplySample u < brownoutEntryLevel ↔ u < 900) ∧
      (brownoutExitLevel ≤ supplySample u ↔ 950 ≤ u) := by
  have h := supplySample_eq u
  unfold brownoutEntryLevel brownoutExitLevel
  omega

theorem endMs_runs {p i v u : Int} {s : State} (hc : s.config.isSome = true) (hms : s.ms < 1280) :
    (endMs p i v u s).supervisor = supplyRuns (supplySample u) s.supervisor := by
  simp [endMs, hc, hms]

/-- What a warn test makes of the flag and the latch, level by level (R163). -/
theorem takeWarn_levels {c : Settings} {s : State} (hc : s.config = some c) (m : Nat) :
    (s.supervisor.warn = false → (takeWarn (some m) s).supervisor.warn = decide (m < c.warnLevel)) ∧
      (s.supervisor.warn = true →
        (takeWarn (some m) s).supervisor.warn = decide (m < c.warnLevel + 30)) ∧
      (takeWarn (some m) s).supervisor.alarms.supply =
        (s.supervisor.alarms.supply ||
          ((takeWarn (some m) s).supervisor.warn && !s.supervisor.warn)) := by
  obtain ⟨hwarn, hsupply⟩ := takeWarn_flag m hc
  rw [hsupply, hwarn]
  exact ⟨fun h => by simp [warnAfter, h], fun h => by simp [warnAfter, h], rfl⟩

/-- The warn test of a boundary is that of the state before it, but that its work has been done (R161). -/
theorem takenState_warn {c : Settings} {kind : BoundaryKind} {upsets : BoundaryUpsets}
    {g : CycleEdge} {s : State} (hc : s.config = some c) {m : Nat} (hm : g.warnDue = some m) :
    (takenState c kind upsets g s).supervisor.warn = warnAfter c s.supervisor.warn m ∧
      (takenState c kind upsets g s).supervisor.alarms.supply =
        (s.supervisor.alarms.supply ||
          (warnAfter c s.supervisor.warn m && !s.supervisor.warn)) := by
  obtain ⟨hconfig, -, hwarn, hsupply, -⟩ := boundaryEnd_facts c kind upsets g s
  obtain ⟨hw, ha⟩ := takeWarn_flag (c := c) (s := (boundaryEnd c kind upsets g s).setEdge
    (some
      { g with
        boundary := none, dwellDue := g.dwellDue && s.correlator.waiting, offer := none,
        warnDue := none })) m (by simpa [hconfig] using hc)
  simp only [State.setEdge_fields, hwarn, hsupply] at hw ha
  simp only [takenState, derive_facts, hm]
  exact ⟨hw, ha⟩

/-- Without the working mark no working condition is derived (R152, R159). -/
theorem conditionOf_not_working {loaded : Bool} {u : Supervisor} (h : u.working = false) :
    conditionOf loaded u ≠ .regulating ∧ conditionOf loaded u ≠ .holding ∧
      conditionOf loaded u ≠ .survey := by
  unfold conditionOf
  rw [h]
  split_ifs <;> simp_all

end Sys2Proof.Machine

namespace Sys2Proof.Proofs
open Sys2Proof.Machine Sys2Proof.Safety

/-- Settles O17: an incomplete cycle's report is empty, and an unconfigured device has none. -/
theorem brokenCycleHandsNothing : Obligations.BrokenCycleHandsNothing := by
  intro inputs s hheld hbroken
  refine ⟨_, exec_cycleEnded inputs hheld, ?_⟩
  simp only [drive_fields, cycleEnded_front, clearFront]
  cases hc : s.config with
  | none => simp [cycleEnded_unconfigured inputs hc, State.reset]
  | some c =>
    obtain ⟨hmarked, hself, hsearch, hinstant, hcurrent, hvoltage, herror⟩ :=
      reportAt_of_incomplete c (cycleComplete_of_broken hbroken)
    simp [cycleEnded_blocks inputs hc, cycleEnded_sums inputs hc, herror, hmarked, hself, hsearch,
      hinstant, driveComparisons_of_none hcurrent hvoltage, adjustmentOf, gatherSample,
      agreeAtCycleEnd_relock, State.reset]

/-- Settles O18: a complete cycle's report, usable or not, taken by the blocks. -/
theorem completeCycleGathers : Obligations.CompleteCycleGathers := by
  intro c x disturbed inputs s hheld hc hsamples hu hx hr
  have hcomplete := cycleComplete_of hsamples hu hx hr
  have husable := cycleUsable_of_complete hcomplete
  have hdisturbed : (reportAt c s).disturbed = (disturbed || s.front.overrange) := by
    simp [reportAt_fields, cycleDisturbed, hcomplete, hr]
  have hmarked : (reportAt c s).marked = decide (0 < s.agreement.relock) := by
    simp [reportAt_fields, cycleMarked, hcomplete]
  have hinstant : (reportAt c s).instantOff = s.front.instantOff := by
    simp [reportAt_fields, hcomplete]
  obtain ⟨hlength, hagreement, hregulation, -⟩ := cycleEnded_blocks inputs hc
  obtain ⟨hselfSum, hselfCount, hdwellSum, hdwellCount, hwaiting⟩ := cycleEnded_sums inputs hc
  refine ⟨_, exec_cycleEnded inputs hheld, ?_⟩
  simp only [drive_fields, hlength, hagreement, hregulation, hselfSum, hselfCount, hdwellSum,
    hdwellCount, hwaiting, agreeAtCycleEnd_relock, hmarked, hdisturbed, hinstant]
  refine ⟨fun hd ho hk => ?_, fun h => ?_, ?_, ?_, fun o ho hd hover hsettle htag => ?_, fun h => ?_⟩
  · have hyes : cycleUsable (ranOut s) = true := by simp [husable, hr, hd, ho, hk]
    have hsearch : (reportAt c s).search = some (influence c.depth
        (corrSum c.order s.timer.position s.correlator.dwellCode s.front.prompt)) := by
      simp [reportAt_fields, searchResult, hyes]
    rw [hsearch]
    refine ⟨rfl, rfl, fun ⟨hkeyed, hdark⟩ => ?_, fun h => ?_⟩
    · simp [reportAt_fields, selfResult, hyes, hkeyed, hdark, hx]
    · rcases h with h | h <;> simp [reportAt_fields, selfResult, h]
  · have hno : cycleUsable (ranOut s) = false := by
      rw [husable, hr]
      rcases h with h | h | h
      · simp [h]
      · simp [h]
      · simp [Nat.pos_iff_ne_zero.mp h]
    have herror : errorAt c inputs s = none := cycleError_of_unusable hno
    simp [reportAt_fields, herror, adjustmentOf, searchResult, selfResult, hno]
  · split <;> rename_i hpos
    · rfl
    · simp only [decide_eq_true_eq, Nat.not_lt, Nat.le_zero] at hpos
      omega
  · congr 1
    by_cases hone : s.agreement.relock = 1 <;> simp [hone]
  · have hvalid : sampleValid c s.regulation.settle (disturbed || s.front.overrange)
        s.timer.position o = true := by
      rcases hsettle with hsettle | hsettle <;> simp [sampleValid, hd, hover, hsettle, htag]
    simp [gatherSample, ho, hvalid]
  · unfold gatherSample
    split
    · rename_i o ho
      rw [if_neg]
      rcases h with h | h | h | ⟨hsettle, hposition⟩ | ⟨o', ho', htag⟩
      · simp [h] at ho
      · simp [sampleValid, h]
      · simp [sampleValid, h]
      · simp [sampleValid, hsettle, Nat.not_le.mpr hposition]
      · obtain rfl : o' = o := Option.some.inj (ho'.symm.trans ho)
        simp [sampleValid, htag]
    · rfl

/-- Settles O19: the comparison of a complete cycle with both means, row by row. -/
theorem stageComparison : Obligations.StageComparison := by
  intro c current demand inputs s hheld hc hsamples hu hx hr hcurrent hdemand
  obtain ⟨x, hx⟩ := Option.isSome_iff_exists.mp hx
  obtain ⟨disturbed, hr⟩ := Option.isSome_iff_exists.mp hr
  have hcomplete := cycleComplete_of hsamples hu hx hr
  obtain ⟨hbad, hgood, hstage, hlimit⟩ := driveComparisons_of_means (c := c) (r := reportAt c s)
    (k := (ranOut s).keying) (current := current) (demand := demand) (by simp [reportAt_fields, hcomplete, hcurrent])
    (by simp [hdemand])
  obtain ⟨-, -, -, hbad', hgood', hstage', hlimit', -, halarm⟩ := cycleEnded_blocks inputs hc
  rw [hbad] at hbad'
  rw [hgood] at hgood'
  rw [hstage] at hstage' halarm
  have hpins : ∀ w : State, w.held = false → w.supervisor.alarms.stage = true →
      (pinsNow w).alm = true := fun w hw ha => by simp [pinsNow, hw, Alarms.any, ha]
  refine ⟨_, exec_cycleEnded inputs hheld, ?_⟩
  have hheld' : (cycleEnded inputs s).held = false := by simpa [cycleEnded] using hheld
  simp only [drive_fields, hbad', hgood', hstage', hlimit', halarm]
  have hrow : stageBad current demand =
      decide (demand + 1000 < 5 * |(current : Int) - demand|) := stageBad_eq current demand
  refine ⟨fun hs hb hn => ?_, fun hs hb hn => ?_, fun hs hb => ?_, fun hs hb => ?_,
    fun hs hb hn => ?_, fun hs hb hn => ?_, fun v hv => ?_⟩
  · rw [hrow, decide_eq_true hb]
    simp [stageStep, hs, Nat.ne_of_lt hn]
  · rw [hrow, decide_eq_true hb] at halarm ⊢
    have hlatched : (cycleEnded inputs s).supervisor.alarms.stage = true := by
      simp [halarm, stageStep, hs, hn]
    refine ⟨by simp [stageStep, hs, hn], by simp [stageStep, hs, hn], by simp [stageStep, hs, hn],
      hpins _ hheld' hlatched⟩
  · rw [hrow, decide_eq_false hb]
    simp [stageStep, hs]
  · rw [hrow, decide_eq_true hb]
    simp [stageStep, hs]
  · rw [hrow, decide_eq_false hb]
    simp [stageStep, hs, Nat.ne_of_lt hn]
  · rw [hrow, decide_eq_false hb]
    simp [stageStep, hs, hn]
  · exact hlimit v (by simp [reportAt_fields, hcomplete, hv])

/-- Settles O20: the runs at a sample, and the warn test at the cycle end or after its boundary. -/
theorem supplyIsMonitored : Obligations.SupplyIsMonitored := by
  refine ⟨?_, ?_, ?_⟩
  · intro p i v u s hheld hc hms hwithin
    obtain ⟨hlow, hhigh⟩ := supplySample_levels u
    refine ⟨_, exec_sample hheld hwithin, ?_⟩
    rw [endMs_runs hc hms]
    constructor <;> intro hb <;> simp [supplyRuns, hb, hlow, hhigh, countUp]
  · intro inputs s hheld
    obtain ⟨heard, hedge, -, -⟩ := cycleEnded_edge inputs s
    obtain ⟨hwarn, hsupply⟩ := cycleEnded_warn inputs s hedge
    refine ⟨_, _, exec_cycleEnded inputs hheld, by simpa using hedge, ?_, ?_⟩
    · intro h
      simp only [drive_fields, hwarn, hsupply]
      rcases h with h | h <;> simp [warnLeft, h, takeWarn, supplyMean]
    · intro c m hc hcount hm
      have hmean : supplyMean s.front = some m := by
        rw [supplyMean, if_neg (by omega), hm]
      have hloaded : s.config.isSome = true := by simp [hc]
      obtain ⟨hclear, hset, hlatch⟩ := takeWarn_levels hc m
      simp only [drive_fields, hwarn, hsupply]
      refine ⟨by simp [cycleEnded_front, clearFront, hmean], fun hlast hb => ?_, fun h => ?_⟩
      · have hleft : warnLeft inputs s.config.isSome
            (boundaryOf s.timer.position heard.realign) (supplyMean s.front) = some m := by
          simp [warnLeft, hlast, hloaded, hmean, Option.isSome_iff_ne_none.mpr hb]
        simp [hleft]
      · have hleft : warnLeft inputs s.config.isSome
            (boundaryOf s.timer.position heard.realign) (supplyMean s.front) = none := by
          rcases h with h | h <;> simp [warnLeft, h]
        rw [hleft, hmean]
        exact ⟨rfl, hclear, hset, hlatch⟩
  · intro c g kind upsets s hheld hc hedge hb
    refine ⟨_, exec_frameBoundary_taken upsets hheld hc hedge hb, by simp, ?_, fun h => ?_, fun m hm => ?_⟩
    · have h := takenState_condition c kind upsets g s
      rw [hc] at h
      simpa using h
    · obtain ⟨-, hwarn, hsupply⟩ := takenState_condition_of_no_warn c kind upsets g s h
      exact ⟨by simpa using hwarn, by simpa using hsupply⟩
    · obtain ⟨hwarn, hsupply⟩ := takenState_warn (kind := kind) (upsets := upsets) hc hm
      simp only [drive_fields, hwarn, hsupply]
      exact ⟨fun h => by simp [warnAfter, h], fun h => by simp [warnAfter, h], trivial⟩

/-- Settles O21: the working mark goes with the lock, and no working condition stands without it. -/
theorem lockLostLeavesWork : Obligations.LockLostLeavesWork := by
  intro inputs s
  cases hheld : s.held with
  | true =>
    refine ⟨s, by simp [exec, execCycleEnd, hheld], fun hlocked hunlocked => ?_, fun _ => rfl⟩
    simp [hlocked] at hunlocked
  | false =>
    refine ⟨_, exec_cycleEnded inputs hheld, ?_⟩
    have hcondition := cycleEnded_condition inputs s
    simp only [drive_fields]
    cases hc : s.config with
    | none =>
      obtain ⟨-, hagreement, -, -, -, -, -, hworking, -⟩ := cycleEnded_unconfigured inputs hc
      rw [hagreement, hworking]
      refine ⟨fun hlocked hunlocked => ?_, fun _ => rfl⟩
      simp [hlocked] at hunlocked
    | some c =>
      obtain ⟨-, hagreement, -, -, -, -, -, hworking, -⟩ := cycleEnded_blocks inputs hc
      have hlost := agreeAtCycleEnd_lost_iff (reportAt c s) (errorAt c inputs s)
        s.supervisor.condition s.agreement
      rw [hagreement]
      refine ⟨fun hlocked hunlocked => ?_, fun h => ?_⟩
      · have hclear : (cycleEnded inputs s).supervisor.working = false := by
          rw [hworking, hlost.mpr ⟨hlocked, hunlocked⟩]
          simp
        rw [hcondition]
        exact ⟨hclear, conditionOf_not_working hclear⟩
      · have hkept : (agreeAtCycleEnd (reportAt c s) (errorAt c inputs s) s.supervisor.condition
            s.agreement).2 = false := Bool.eq_false_iff.mpr fun hl => by
          obtain ⟨hlocked, hunlocked⟩ := hlost.mp hl
          exact h.elim (· hlocked) (· hunlocked)
        simp [hworking, hkept]

/-- Settles O22: the lock's step folded over cycle ends, and taken by CYCLE_END. -/
theorem lockTakesEightLossSixteen : Obligations.LockTakesEightLossSixteen := by
  refine ⟨?_, ?_, ?_, ?_, ?_, ?_⟩
  · intro a errors h hlength hsmall hbelow
    exact foldl_lockStep_eight errors a h hsmall (by omega) hbelow
  · intro a errors h hloss hlarge hcount
    exact foldl_lockStep_sixteen errors a h hlarge (by omega) (by omega)
  · exact fun a errors h hsmall hcount => foldl_lockStep_small errors a h hsmall hcount
  · exact fun a errors h hlarge hcount => foldl_lockStep_large errors a h hlarge hcount
  · intro a e
    refine ⟨fun h => ?_, fun h => ?_, fun h => ⟨lockStep_of_solitary h _, lockStep_of_solitary h _⟩⟩
    · obtain ⟨hnone, hsome⟩ := lockStep_of_unlocked h
      refine ⟨hnone, fun hlarge => ?_, fun hsmall hseven => ?_⟩
      · rw [hsome, if_neg (by omega)]
      · rw [hsome, if_pos hsmall, if_pos (by omega)]
    · obtain ⟨hnone, hsome⟩ := lockStep_of_locked h
      refine ⟨hnone, fun hsmall => ?_, fun hlarge hfifteen => ?_⟩
      · rw [hsome, if_neg (by omega)]
      · rw [hsome, if_pos hlarge, if_pos (by omega)]
  · intro c inputs s hheld hc
    obtain ⟨-, hagreement, -⟩ := cycleEnded_blocks inputs hc
    refine ⟨_, exec_cycleEnded inputs hheld, fun hfault => ?_, ?_⟩
    · simp only [drive_fields, hagreement, agreeAtCycleEnd_eq, hfault, if_true]
    · rintro usable e hfault hended hgood rfl rfl
      have hslots : (endedState inputs (ranOut s)).table.slots = s.table.slots := by
        simp only [endedState_fields, ranOut_fields, hended]
        exact mapSlots_eq_self fun k e _ => by simp [strike]
      have herror : errorAt c inputs s =
          weightedError ((s.correlator.lanes.filterMap id).filterMap fun w =>
            if w ∈ codesOf s.table.slots then
              (laneResult c s.timer.position
                (decide (min (s.timer.length / 20) 1280 ≤ s.ms) && cycleUsable s) s.front.early
                s.front.prompt s.front.late w).timing
            else none) := by
        rw [errorAt, reportAt, cycleError_of_good (by rwa [hslots]), hslots]
        simp only [ranOut_fields, ranOut_values, cycleUsable_ranOut]
      simp only [drive_fields, hagreement, agreeAtCycleEnd_eq, hfault, if_false, herror]

end Sys2Proof.Proofs
end

section
/-! PROOFS. The cycle end's hand-overs to the table and the frame unit, entry by entry (R43, R59, R84, R97 to R103), and
what each block's next cycle holds. -/

namespace Sys2Proof.Machine
open Sys2Proof.Safety

/-! ### The next cycle, block by block -/

/-- The parts a cycle end leaves, and the marks that stand in those it touches. -/
theorem cycleEnded_kept (inputs : CycleInputs) (s : State) :
    (cycleEnded inputs s).held = s.held ∧ (cycleEnded inputs s).load = s.load ∧
      (cycleEnded inputs s).lines = s.lines ∧ (cycleEnded inputs s).bus = s.bus ∧
      (cycleEnded inputs s).wire = s.wire ∧ (cycleEnded inputs s).config = s.config ∧
      (cycleEnded inputs s).survey = s.survey ∧ (cycleEnded inputs s).capture = s.capture ∧
      (cycleEnded inputs s).service = s.service ∧
      (cycleEnded inputs s).timer.phase = 0 ∧ (cycleEnded inputs s).timer.window = .undecided ∧
      (cycleEnded inputs s).frames.cycleCount = (s.frames.cycleCount + 1) % 65536 ∧
      (cycleEnded inputs s).frames.ownFrame = s.frames.ownFrame := by
  cases hc : s.config with
  | none =>
    rw [cycleEnded_of_none hc]
    simp [startedTable, readAll, settledCycle, hc]
  | some c =>
    rw [cycleEnded_of_some hc]
    simp [blocksAt, startedTable, readAll, settledCycle, hc]

theorem cycleEnded_length (inputs : CycleInputs) (s : State) :
    25570 ≤ (cycleEnded inputs s).timer.length ∧ (cycleEnded inputs s).timer.length ≤ 25630 := by
  cases hc : s.config with
  | none => simp [(cycleEnded_unconfigured inputs hc).1]
  | some c =>
    rw [(cycleEnded_blocks inputs hc).1]
    have := adjustmentOf_of_le (errorAt_le (c := c) (inputs := inputs) (s := s))
    omega

/-- The new cycle's data bit, keyed mark and demand; of the output drive only the comparisons' results change. -/
theorem cycleEnded_keying (inputs : CycleInputs) (s : State) :
    (cycleEnded inputs s).keying.dataBit =
        presentedBit s.frames.ownFrame (cycleEnded inputs s).timer.position ∧
      (cycleEnded inputs s).keying.keyed = (cycleEnded inputs s).supervisor.condition.output ∧
      (cycleEnded inputs s).keying =
        { s.keying with
          dataBit := (cycleEnded inputs s).keying.dataBit
          keyed := (cycleEnded inputs s).keying.keyed
          demandSum := 0, demandMs := 0, segments := [], meanDemand := none
          badCount := (cycleEnded inputs s).keying.badCount
          goodCount := (cycleEnded inputs s).keying.goodCount
          stage := (cycleEnded inputs s).keying.stage
          voltageLimit := (cycleEnded inputs s).keying.voltageLimit } := by
  cases hc : s.config with
  | none =>
    rw [cycleEnded_of_none hc, closeCycle_keying]
    simp [startedTable, readAll]
  | some c =>
    rw [cycleEnded_of_some hc, closeCycle_keying]
    simp [blocksAt, startedTable, readAll]

theorem cycleEnded_correlator (inputs : CycleInputs) (s : State) :
    (cycleEnded inputs s).correlator =
      { s.correlator with
        selfSum := (cycleEnded inputs s).correlator.selfSum
        selfCount := (cycleEnded inputs s).correlator.selfCount
        xpSelf := none, residual := none
        darkSeen := decide ((cycleEnded inputs s).supervisor.condition = .dark)
        lanes := boundCodes (cycleEnded inputs s).table.slots
        dwellSum := (cycleEnded inputs s).correlator.dwellSum
        dwellCount := (cycleEnded inputs s).correlator.dwellCount
        waiting := (cycleEnded inputs s).correlator.waiting
        startCodes := codesOf (cycleEnded inputs s).table.slots } := by
  cases hc : s.config with
  | none =>
    rw [cycleEnded_of_none hc, closeCycle_correlator]
    simp [startedTable, readAll]
  | some c =>
    obtain ⟨lanes, hcorrelator⟩ :=
      blocksAtCycleEnd_correlator c (reportAt c s) (endedState inputs (ranOut s))
    rw [cycleEnded_of_some hc, closeCycle_correlator, blocksAt, hcorrelator]
    simp [startedTable, readAll]

/-- The supervisor's facts that a cycle end leaves. -/
theorem cycleEnded_facts (inputs : CycleInputs) (s : State) :
    (cycleEnded inputs s).supervisor.faultCause = s.supervisor.faultCause ∧
      (cycleEnded inputs s).supervisor.hold = s.supervisor.hold ∧
      (cycleEnded inputs s).supervisor.pendingHold = s.supervisor.pendingHold ∧
      (cycleEnded inputs s).supervisor.mains = s.supervisor.mains ∧
      (cycleEnded inputs s).supervisor.brownout = s.supervisor.brownout ∧
      (cycleEnded inputs s).supervisor.lowRun = s.supervisor.lowRun ∧
      (cycleEnded inputs s).supervisor.highRun = s.supervisor.highRun ∧
      (cycleEnded inputs s).supervisor.lastAligned = s.supervisor.lastAligned ∧
      (cycleEnded inputs s).supervisor.surveyRunning = s.supervisor.surveyRunning ∧
      (cycleEnded inputs s).supervisor.alarms.floor = s.supervisor.alarms.floor ∧
      (cycleEnded inputs s).supervisor.alarms.ilimit = s.supervisor.alarms.ilimit ∧
      (cycleEnded inputs s).supervisor.alarms.vlimit = s.supervisor.alarms.vlimit ∧
      (cycleEnded inputs s).supervisor.alarms.noself = s.supervisor.alarms.noself ∧
      (cycleEnded inputs s).supervisor.alarms.capdrop = s.supervisor.alarms.capdrop := by
  cases hc : s.config with
  | none =>
    rw [cycleEnded_of_none hc, closeCycle_supervisor]
    simp [startedTable, readAll, settledCycle]
  | some c =>
    rw [cycleEnded_of_some hc, closeCycle_supervisor]
    simp [startedTable, readAll, settledCycle, blocksAt]

theorem cycleEnded_supervisor (inputs : CycleInputs) (s : State) :
    (cycleEnded inputs s).supervisor =
      { s.supervisor with
        condition := (cycleEnded inputs s).supervisor.condition
        working := (cycleEnded inputs s).supervisor.working
        warn := (cycleEnded inputs s).supervisor.warn
        solitary := (cycleEnded inputs s).supervisor.solitary
        alarms :=
          { s.supervisor.alarms with
            stage := (cycleEnded inputs s).supervisor.alarms.stage
            supply := (cycleEnded inputs s).supervisor.alarms.supply
            table := (cycleEnded inputs s).supervisor.alarms.table } } := by
  have hfacts := cycleEnded_facts inputs s
  generalize (cycleEnded inputs s).supervisor = u at hfacts ⊢
  obtain ⟨hfault, hhold, hpending, hmains, hbrownout, hlow, hhigh, haligned, hrunning, hfloor,
    hilimit, hvlimit, hnoself, hcapdrop⟩ := hfacts
  dsimp only
  rw [← hfault, ← hhold, ← hpending, ← hmains, ← hbrownout, ← hlow, ← hhigh, ← haligned,
    ← hrunning, ← hfloor, ← hilimit, ← hvlimit, ← hnoself, ← hcapdrop]

theorem cycleEnded_regulation (inputs : CycleInputs) (s : State) :
    (cycleEnded inputs s).regulation =
      { s.regulation with
        sampleSum := (cycleEnded inputs s).regulation.sampleSum
        sampleCount := (cycleEnded inputs s).regulation.sampleCount } := by
  cases hc : s.config with
  | none =>
    obtain ⟨-, -, hregulation, -⟩ := cycleEnded_unconfigured inputs hc
    rw [hregulation]
  | some c =>
    obtain ⟨-, -, hregulation, -⟩ := cycleEnded_blocks inputs hc
    rw [hregulation]
    exact gatherSample_eq _ _ _ _ _

/-! ### The reads and the outcomes -/

/-- The state with the reads of a cycle end made (R70, R71). -/
def readAtEnd (c : Settings) (inputs : CycleInputs) (s : State) : State :=
  checkParity (fun _ => readAtCycleEnd (reportAt c s)) (endedState inputs (ranOut s))

/-- The condition that the realignment decision of a cycle end reads (R86, log 8). -/
def ownAt (c : Settings) (inputs : CycleInputs) (s : State) : Condition :=
  decidingCondition (lockLost (reportAt c s) (endedState inputs (ranOut s)))
    (endedState inputs (ranOut s))

/-- What a cycle end makes of an entry that its reads leave. -/
def outcomeAt (c : Settings) (inputs : CycleInputs) (s : State) (e : Entry) : EntryOutcome :=
  slotOutcome c (ownAt c inputs s) (reportAt c s) ((s.frames.cycleCount + 1) % 65536)
    (readAtEnd c inputs s).frames.watches e

/-- What a read makes of the table and the watches rests on the table and the watches alone. -/
theorem checkParity_same (read : Nat → Entry → Bool) {w w' : State} (htable : w.table = w'.table)
    (hframes : w.frames = w'.frames) :
    (checkParity read w).table = (checkParity read w').table ∧
      (checkParity read w).frames = (checkParity read w').frames := by
  unfold checkParity
  rw [htable]
  split
  · exact ⟨htable, hframes⟩
  · simp only [hframes, and_self]

/-- What the lanes' results make of the table and the watches, and what was heard. -/
theorem takeResults_parts (c : Settings) (own : Condition) (r : CycleReport) {w : State} {t : Table}
    {f : FrameUnit} (htable : w.table = t) (hframes : w.frames = f) :
    (takeResults c own r w).1.table.slots =
        mapEntries (fun e => some (slotOutcome c own r f.cycleCount f.watches e).entry) t.slots ∧
      (takeResults c own r w).1.frames.watches =
        watchesAfter ((entriesOf t.slots).map (slotOutcome c own r f.cycleCount f.watches))
          f.watches ∧
      (takeResults c own r w).2 =
        { accepted :=
            (((entriesOf t.slots).map (slotOutcome c own r f.cycleCount f.watches)).filter
              EntryOutcome.accepted).map fun o => o.entry.code
          aligned :=
            (((entriesOf t.slots).map (slotOutcome c own r f.cycleCount f.watches)).filter
              EntryOutcome.aligned).map fun o => o.entry.code
          realign :=
            ((entriesOf t.slots).map (slotOutcome c own r f.cycleCount f.watches)).any
              EntryOutcome.realigns } := by
  subst htable hframes
  simp [takeResults]

/-- What the table and the frame unit hold after the blocks' work, and what was heard. -/
theorem blocksAt_table (c : Settings) (inputs : CycleInputs) (s : State) :
    (blocksAt c inputs s).1.table.slots =
        mapEntries (fun e => some (outcomeAt c inputs s e).entry)
          (readAtEnd c inputs s).table.slots ∧
      (blocksAt c inputs s).1.frames.watches =
        watchesAfter
          ((entriesOf (readAtEnd c inputs s).table.slots).map (outcomeAt c inputs s))
          (readAtEnd c inputs s).frames.watches ∧
      (blocksAt c inputs s).2 =
        { accepted :=
            (((entriesOf (readAtEnd c inputs s).table.slots).map (outcomeAt c inputs s)).filter
              EntryOutcome.accepted).map fun o => o.entry.code
          aligned :=
            (((entriesOf (readAtEnd c inputs s).table.slots).map (outcomeAt c inputs s)).filter
              EntryOutcome.aligned).map fun o => o.entry.code
          realign :=
            ((entriesOf (readAtEnd c inputs s).table.slots).map (outcomeAt c inputs s)).any
              EntryOutcome.realigns } := by
  have hread := checkParity_same (fun _ => readAtCycleEnd (reportAt c s))
    (w := { endedState inputs (ranOut s) with
      keying := driveComparisons c (reportAt c s) (endedState inputs (ranOut s)).keying
      correlator :=
        gatherFigures (reportAt c s) (endedState inputs (ranOut s)).agreement.relock
          (endedState inputs (ranOut s)).correlator
      regulation :=
        gatherSample c (reportAt c s).disturbed (reportAt c s).position (reportAt c s).instantOff
          (endedState inputs (ranOut s)).regulation
      agreement :=
        (agreeAtCycleEnd (reportAt c s) (cycleError (reportAt c s) (endedState inputs (ranOut s)))
          (endedState inputs (ranOut s)).supervisor.condition
          (endedState inputs (ranOut s)).agreement).1
      supervisor :=
        superviseCycle (lockLost (reportAt c s) (endedState inputs (ranOut s)))
          ((driveComparisons c (reportAt c s) (endedState inputs (ranOut s)).keying).stage &&
            !(endedState inputs (ranOut s)).keying.stage)
          (endedState inputs (ranOut s)).supervisor })
    (w' := endedState inputs (ranOut s)) rfl rfl
  have hparts := takeResults_parts c (ownAt c inputs s) (reportAt c s) hread.1 hread.2
  have hcount : (readAtEnd c inputs s).frames.cycleCount = (s.frames.cycleCount + 1) % 65536 := by
    simp [readAtEnd]
  unfold outcomeAt
  rw [← hcount]
  exact hparts

/-- The entries after a cycle end: those its reads leave, with their outcomes, that the reads of the new cycle's
start leave in turn. -/
theorem cycleEnded_table {c : Settings} (inputs : CycleInputs) {s : State} (hc : s.config = some c) :
    (cycleEnded inputs s).table.slots =
        mapSlots
          (fun k e => passRead (fun _ _ => true) k
            (strike inputs.started k (outcomeAt c inputs s e).entry))
          (readAtEnd c inputs s).table.slots ∧
      (cycleEnded inputs s).frames.watches =
        dropWatches
          (lanesOf
            (failingSlots (fun _ _ => true)
              (upsetEntries inputs.started (blocksAt c inputs s).1).table.slots)
            (upsetEntries inputs.started (blocksAt c inputs s).1).table.slots)
          (watchesAfter
            ((entriesOf (readAtEnd c inputs s).table.slots).map (outcomeAt c inputs s))
            (readAtEnd c inputs s).frames.watches) := by
  obtain ⟨hslots, hwatches, -⟩ := blocksAt_table c inputs s
  rw [cycleEnded_of_some hc, (closeCycle_table _ _ _ _ _).1, (closeCycle_table _ _ _ _ _).2,
    startedTable, readAll, checkParity_slots, checkParity_watches, upsetEntries_slots,
    upsetEntries_slots]
  simp only [settledCycle, derive_fields, takeWarn_fields, upsetEntries_fields, hslots, hwatches,
    mapEntries_eq_mapSlots, mapSlots_mapSlots, Option.bind_some, and_self]

/-- An entry in slot `k` stands after the reads of a cycle end exactly as it was struck and passed. -/
theorem readAtEnd_slots (c : Settings) (inputs : CycleInputs) (s : State) :
    (readAtEnd c inputs s).table.slots =
      mapSlots
        (fun k e => passRead (fun _ => readAtCycleEnd (reportAt c s)) k (strike inputs.ended k e))
        s.table.slots := by
  rw [readAtEnd, checkParity_slots]
  simp only [endedState_fields, ranOut_fields, mapSlots_mapSlots, Option.bind_some]

/-- Whether a lane handed a result for an entry at a cycle end (R43). -/
theorem any_reportAt (c : Settings) (s : State) (w : Nat) :
    ((reportAt c s).results.any fun x => decide (x.code = w)) =
      decide (some w ∈ s.correlator.lanes) := by
  simp only [reportAt_fields, any_laneResults, ranOut_fields]

theorem passRead_strike_eq_some {read : Nat → Entry → Bool} {struck : List Nat} {k : Nat}
    {e e' : Entry} :
    passRead read k (strike struck k e) = some e' ↔
      strike struck k e = e' ∧ (e'.parityGood = true ∨ read k e' = false) := by
  generalize strike struck k e = x
  unfold passRead failsRead
  cases hgood : x.parityGood <;> cases hread : read k x <;> simp <;> grind

/-- An entry whose lane handed a result stands exactly where it was good and not struck (R44, R70). -/
theorem readAtEnd_of_lane {c : Settings} {inputs : CycleInputs} {s : State} {k : Nat} {e : Entry}
    (hlane : some e.code ∈ s.correlator.lanes) :
    (readAtEnd c inputs s).table.slots[k]? = some (some e) ↔
      s.table.slots[k]? = some (some e) ∧ e.parityGood = true ∧ k ∉ inputs.ended := by
  have hread : readAtCycleEnd (reportAt c s) e = true := by
    rw [readAtCycleEnd, any_reportAt]
    simp [hlane]
  rw [readAtEnd_slots, getElem?_mapSlots_eq_some]
  simp only [passRead_strike_eq_some]
  constructor
  · rintro ⟨e₀, hk, hstrike, hpass⟩
    have hgood : e.parityGood = true := hpass.resolve_right (by simp [hread])
    have hnot : k ∉ inputs.ended := by
      have := hstrike ▸ hgood
      simp only [strike_fields, Bool.and_eq_true, decide_eq_true_eq] at this
      exact this.2
    rw [strike_of_notMem hnot] at hstrike
    exact ⟨hstrike ▸ hk, hgood, hnot⟩
  · rintro ⟨hk, hgood, hnot⟩
    exact ⟨e, hk, strike_of_notMem hnot e, .inl hgood⟩

/-- A good entry that no upset strikes stands through the reads of a cycle end. -/
theorem readAtEnd_of_good {c : Settings} {inputs : CycleInputs} {s : State} {k : Nat} {e : Entry}
    (hk : s.table.slots[k]? = some (some e)) (hgood : e.parityGood = true)
    (hnot : k ∉ inputs.ended) : (readAtEnd c inputs s).table.slots[k]? = some (some e) := by
  rw [readAtEnd_slots, getElem?_mapSlots_eq_some]
  exact ⟨e, hk, passRead_strike_eq_some.mpr ⟨strike_of_notMem hnot e, .inl hgood⟩⟩

/-- The outcome of an entry whose lane was open since the cycle's start (R43, R59, R97). -/
theorem outcomeAt_of_lane {c : Settings} {inputs : CycleInputs} {s : State} {e : Entry}
    (h : some e.code ∈ s.correlator.lanes) :
    outcomeAt c inputs s e =
      { entryAtCycleEnd c (ownAt c inputs s) (stationDecodes s) s.timer.position
          ((s.frames.cycleCount + 1) % 65536)
          (e.lane.bind fun lane => (readAtEnd c inputs s).frames.watches.getD (lane - 1) none)
          (laneResult c s.timer.position (cycleUsable (ranOut s)) s.front.early s.front.prompt
            s.front.late e.code) e with
        entry :=
          (entryAtCycleEnd c (ownAt c inputs s) (stationDecodes s) s.timer.position
            ((s.frames.cycleCount + 1) % 65536)
            (e.lane.bind fun lane => (readAtEnd c inputs s).frames.watches.getD (lane - 1) none)
            (laneResult c s.timer.position (cycleUsable (ranOut s)) s.front.early s.front.prompt
              s.front.late e.code) e).entry.dropStale ((s.frames.cycleCount + 1) % 65536) } := by
  unfold outcomeAt slotOutcome
  simp only [reportAt_fields, find?_laneResults, ranOut_fields, ranOut_values, h, if_true]

/-- The outcome of an entry that no lane handed a result for (R84). -/
theorem outcomeAt_of_no_lane {c : Settings} {inputs : CycleInputs} {s : State} {e : Entry}
    (h : some e.code ∉ s.correlator.lanes) :
    outcomeAt c inputs s e =
      { entryWithoutResult e with entry := e.dropStale ((s.frames.cycleCount + 1) % 65536) } := by
  unfold outcomeAt slotOutcome
  simp only [reportAt_fields, find?_laneResults, ranOut_fields, h, if_false]
  rfl

@[simp] theorem outcomeAt_kept (c : Settings) (inputs : CycleInputs) (s : State) (e : Entry) :
    (outcomeAt c inputs s e).entry.code = e.code ∧ (outcomeAt c inputs s e).entry.lane = e.lane ∧
      (outcomeAt c inputs s e).handed = decide (some e.code ∈ s.correlator.lanes) ∧
      (e.parityGood = true → (outcomeAt c inputs s e).entry.parityGood = true) := by
  by_cases h : some e.code ∈ s.correlator.lanes
  · simp [outcomeAt_of_lane h, h]
  · simp [outcomeAt_of_no_lane h, h, entryWithoutResult]

/-- The condition of the realignment decision reaches the realignment alone, and the watch the watch and the
discarded count alone (R83 to R86, R101, R102). -/
theorem entryAtCycleEnd_congr (c : Settings) (own own' : Condition) (decodes : Bool) (p now : Nat)
    (watch watch' : Option Nat) (r : LaneResult) (e : Entry) :
    (entryAtCycleEnd c own decodes p now watch r e).entry =
        (entryAtCycleEnd c own' decodes p now watch r e).entry ∧
      (entryAtCycleEnd c own decodes p now watch r e).watch =
        (entryAtCycleEnd c own' decodes p now watch r e).watch ∧
      (entryAtCycleEnd c own decodes p now watch r e).accepted =
        (entryAtCycleEnd c own' decodes p now watch' r e).accepted ∧
      (entryAtCycleEnd c own decodes p now watch r e).aligned =
        (entryAtCycleEnd c own' decodes p now watch' r e).aligned ∧
      (entryAtCycleEnd c own decodes p now watch r e).realigns =
        (entryAtCycleEnd c own decodes p now watch' r e).realigns := by
  simp [entryAtCycleEnd_eq]

/-- The entries that were heard in a way that only a handed result can bring. -/
theorem exists_heard_iff {c : Settings} {inputs : CycleInputs} {s : State}
    {heard heard' : Entry → Bool}
    (hlane : ∀ e, heard e = true → some e.code ∈ s.correlator.lanes)
    (hsame : ∀ e, some e.code ∈ s.correlator.lanes → heard e = heard' e) (P : Entry → Prop) :
    (∃ e ∈ entriesOf (readAtEnd c inputs s).table.slots, P e ∧ heard e = true) ↔
      ∃ k e, s.table.slots[k]? = some (some e) ∧ e.parityGood = true ∧ k ∉ inputs.ended ∧
        some e.code ∈ s.correlator.lanes ∧ P e ∧ heard' e = true := by
  constructor
  · rintro ⟨e, he, hp, hheard⟩
    obtain ⟨k, hk⟩ := mem_entriesOf_iff_getElem?.mp he
    obtain ⟨hk', hgood, hnot⟩ := (readAtEnd_of_lane (hlane e hheard)).mp hk
    exact ⟨k, e, hk', hgood, hnot, hlane e hheard, hp, hsame e (hlane e hheard) ▸ hheard⟩
  · rintro ⟨k, e, hk, hgood, hnot, hopen, hp, hheard⟩
    exact ⟨e, mem_entriesOf_of_getElem? ((readAtEnd_of_lane hopen).mpr ⟨hk, hgood, hnot⟩), hp,
      hsame e hopen ▸ hheard⟩

/-! ### The watches (R102) -/

theorem index_eq_of_nodup_filterMap {α β : Type} {φ : α → Option β} {xs : List α}
    (h : (xs.filterMap φ).Nodup) {j k : Nat} {x y : α} (hx : xs[j]? = some x) (hy : xs[k]? = some y)
    {z : β} (hxz : φ x = some z) (hyz : φ y = some z) : j = k := by
  induction xs generalizing j k with
  | nil => simp at hx
  | cons a xs ih =>
    have hhead : ∀ {b : α} {i : Nat}, φ a = some z → xs[i]? = some b → φ b ≠ some z := by
      intro b i ha hb hbz
      rw [List.filterMap_cons_some ha] at h
      exact (List.nodup_cons.mp h).1 (List.mem_filterMap.mpr ⟨b, List.mem_of_getElem? hb, hbz⟩)
    have htail : (xs.filterMap φ).Nodup := by
      cases ha : φ a with
      | none => rwa [List.filterMap_cons_none ha] at h
      | some b => exact (List.nodup_cons.mp (List.filterMap_cons_some ha ▸ h)).2
    cases j with
    | zero =>
      obtain rfl : a = x := by simpa using hx
      cases k with
      | zero => rfl
      | succ k => exact absurd hyz (hhead hxz (by simpa using hy))
    | succ j =>
      cases k with
      | zero =>
        obtain rfl : a = y := by simpa using hy
        exact absurd hxz (hhead hyz (by simpa using hx))
      | succ k =>
        have hx' : xs[j]? = some x := by simpa using hx
        have hy' : xs[k]? = some y := by simpa using hy
        exact congrArg Nat.succ (ih htail hx' hy')

/-- An entry's code stands in one slot. -/
theorem slot_eq_of_code {slots : List (Option Entry)} (h : (codesOf slots).Nodup) {j k : Nat}
    {e e' : Entry} (hj : slots[j]? = some (some e)) (hk : slots[k]? = some (some e'))
    (hcode : e.code = e'.code) : j = k := by
  have hcodes : codesOf slots = slots.filterMap fun o => o.map Entry.code := by
    simp [codesOf, entriesOf, List.map_filterMap]
  rw [hcodes] at h
  exact index_eq_of_nodup_filterMap h hj hk rfl (by simp [hcode])

theorem not_mem_lanesOf {own lane k : Nat} {e : Entry} {ks : List Nat} {slots : List (Option Entry)}
    (h : SlotsOk own slots) (hk : slots[k]? = some (some e)) (hlane : e.lane = some lane)
    (hnot : k ∉ ks) : lane ∉ lanesOf ks slots := by
  intro hmem
  obtain ⟨j, hj, hbind⟩ := List.mem_filterMap.mp hmem
  obtain ⟨e', ho, hlane'⟩ := Option.bind_eq_some_iff.mp hbind
  have hj' : slots[j]? = some (some e') := by
    rw [List.getD_eq_getElem?_getD] at ho
    rcases hslot : slots[j]? with _ | o
    · simp [hslot] at ho
    · simpa [hslot] using ho
  obtain rfl := eq_of_lane h (mem_entriesOf_of_getElem? hk) (mem_entriesOf_of_getElem? hj') hlane hlane'
  exact hnot (slot_eq_of_code h.2.1 hj' hk rfl ▸ hj)

theorem getElem?_watchesAfter (outcomes : List EntryOutcome) (watches : List (Option Nat)) (k : Nat) :
    (watchesAfter outcomes watches)[k]? =
      watches[k]?.map fun w =>
        match outcomes.find? fun o => o.handed && o.entry.lane = some (k + 1) with
        | some o => o.watch
        | none => w := by
  rw [watchesAfter, List.getElem?_map, List.getElem?_zipIdx, Nat.zero_add]
  cases watches[k]? <;> rfl

/-- Both ways an entry stands after the reads of a cycle end, it has its slot's entry's code and lane. -/
theorem slotsOk_readAtEnd {c : Settings} {inputs : CycleInputs} {s : State} {own : Nat}
    (h : SlotsOk own s.table.slots) : SlotsOk own (readAtEnd c inputs s).table.slots := by
  rw [readAtEnd_slots]
  refine slotsOk_mapSlots h fun k e e' hok he => ?_
  obtain ⟨rfl, -⟩ := passRead_strike_eq_some.mp he
  simpa using entryOk_strike hok

theorem slotsOk_cycleEnded {inputs : CycleInputs} {s : State} {own : Nat}
    (h : SlotsOk own s.table.slots) : SlotsOk own (cycleEnded inputs s).table.slots :=
  tableForm_endCycle (config := some { settingsOf [] with ownCode := own }) (by simpa [TableForm] using h)

/-- What a cycle end makes of a good entry that no upset strikes, and of its lane's watch (R59, R84, R97, R102). -/
theorem cycleEnded_entry {c : Settings} {inputs : CycleInputs} {s : State} (hc : s.config = some c)
    (h : SlotsOk c.ownCode s.table.slots) {k : Nat} {e : Entry}
    (hk : s.table.slots[k]? = some (some e)) (hgood : e.parityGood = true) (hended : k ∉ inputs.ended)
    (hstarted : k ∉ inputs.started) :
    (cycleEnded inputs s).table.slots[k]? = some (some (outcomeAt c inputs s e).entry) ∧
      ∀ lane, e.lane = some lane →
        (readAtEnd c inputs s).frames.watches[lane - 1]? = s.frames.watches[lane - 1]? ∧
          (s.frames.watches.length = 4 → (cycleEnded inputs s).frames.watches[lane - 1]? =
            if some e.code ∈ s.correlator.lanes then some (outcomeAt c inputs s e).watch
            else s.frames.watches[lane - 1]?) := by
  obtain ⟨hslots, hwatches⟩ := cycleEnded_table inputs hc
  have hread := readAtEnd_of_good (c := c) (inputs := inputs) hk hgood hended
  obtain ⟨-, -, -, hkept⟩ := outcomeAt_kept c inputs s e
  refine ⟨?_, fun lane hlane => ?_⟩
  · rw [hslots, getElem?_mapSlots_eq_some]
    exact ⟨e, hread, passRead_strike_eq_some.mpr ⟨strike_of_notMem hstarted _, .inl (hkept hgood)⟩⟩
  · obtain ⟨hlow, hhigh⟩ := (entryOk_of_mem h (mem_entriesOf_of_getElem? hk)).2.1 lane
      (Option.mem_def.mpr hlane)
    have hlane' : lane - 1 + 1 = lane := by omega
    have hfirst : (readAtEnd c inputs s).frames.watches[lane - 1]? = s.frames.watches[lane - 1]? := by
      have hstruck : (endedState inputs (ranOut s)).table.slots[k]? = some (some e) := by
        rw [endedState, upsetEntries_slots, getElem?_mapSlots_eq_some]
        exact ⟨e, by simpa using hk, by rw [strike_of_notMem hended]⟩
      have hform : SlotsOk c.ownCode (endedState inputs (ranOut s)).table.slots :=
        tableForm_upsetEntries (config := some c) (by simpa [TableForm] using h)
      have hnot := not_mem_lanesOf hform hstruck hlane
        (ks := failingSlots (fun _ => readAtCycleEnd (reportAt c s))
          (endedState inputs (ranOut s)).table.slots) fun hmem => by
        obtain ⟨e', hk', hfails⟩ := mem_failingSlots.mp hmem
        rw [hstruck] at hk'
        obtain rfl := Option.some.inj (Option.some.inj hk')
        simp [failsRead, hgood] at hfails
      rw [readAtEnd, checkParity_watches, getElem?_dropWatches, hlane', if_neg hnot]
      simp
    have hsecond : lane ∉ lanesOf
        (failingSlots (fun _ _ => true)
          (upsetEntries inputs.started (blocksAt c inputs s).1).table.slots)
        (upsetEntries inputs.started (blocksAt c inputs s).1).table.slots := by
      have hform : SlotsOk c.ownCode
          (upsetEntries inputs.started (blocksAt c inputs s).1).table.slots :=
        tableForm_upsetEntries (config := some c)
          (tableForm_blocksAtCycleEnd (tableForm_upsetEntries (by simpa [TableForm] using h)))
      have hstands : (upsetEntries inputs.started (blocksAt c inputs s).1).table.slots[k]? =
          some (some (outcomeAt c inputs s e).entry) := by
        rw [upsetEntries_slots, getElem?_mapSlots_eq_some]
        refine ⟨_, ?_, by rw [strike_of_notMem hstarted]⟩
        rw [(blocksAt_table c inputs s).1, mapEntries_eq_mapSlots, getElem?_mapSlots_eq_some]
        exact ⟨e, hread, rfl⟩
      refine not_mem_lanesOf hform hstands (by simpa using hlane) fun hmem => ?_
      obtain ⟨e', hk', hfails⟩ := mem_failingSlots.mp hmem
      rw [hstands] at hk'
      obtain rfl := Option.some.inj (Option.some.inj hk')
      simp [failsRead, hkept hgood] at hfails
    refine ⟨hfirst, fun hlength => ?_⟩
    rw [hwatches, getElem?_dropWatches, hlane', if_neg hsecond, getElem?_watchesAfter, hlane', hfirst]
    have hmine : ∀ o ∈ (entriesOf (readAtEnd c inputs s).table.slots).map (outcomeAt c inputs s),
        o.entry.lane = some lane → o = outcomeAt c inputs s e := by
      intro o ho holane
      obtain ⟨e', he', rfl⟩ := List.mem_map.mp ho
      rw [eq_of_lane (slotsOk_readAtEnd h) he' (mem_entriesOf_of_getElem? hread)
        (by simpa using holane) hlane]
    have hlt : lane - 1 < s.frames.watches.length := by omega
    by_cases hopen : some e.code ∈ s.correlator.lanes
    · have hfind : ((entriesOf (readAtEnd c inputs s).table.slots).map (outcomeAt c inputs s)).find?
          (fun o => o.handed && decide (o.entry.lane = some lane)) = some (outcomeAt c inputs s e) := by
        cases hfound : ((entriesOf (readAtEnd c inputs s).table.slots).map
            (outcomeAt c inputs s)).find? fun o => o.handed && decide (o.entry.lane = some lane) with
        | none =>
          have := List.find?_eq_none.mp hfound (outcomeAt c inputs s e)
            (List.mem_map_of_mem (mem_entriesOf_of_getElem? hread))
          simp [hopen, hlane] at this
        | some o =>
          have htest := List.find?_some hfound
          simp only [Bool.and_eq_true, decide_eq_true_eq] at htest
          rw [hmine o (List.mem_of_find?_eq_some hfound) htest.2]
      rw [hfind, if_pos hopen, List.getElem?_eq_getElem hlt]
      rfl
    · have hfind : ((entriesOf (readAtEnd c inputs s).table.slots).map (outcomeAt c inputs s)).find?
          (fun o => o.handed && decide (o.entry.lane = some lane)) = none := by
        rw [List.find?_eq_none]
        intro o ho htest
        simp only [Bool.and_eq_true, decide_eq_true_eq] at htest
        rw [hmine o ho htest.2] at htest
        simp [hopen] at htest
      rw [hfind, if_neg hopen]
      simp

/-- Only a confirmed misaligned frame calls for a realignment, of an entry with a lane and a pending offset (R86). -/
theorem of_outcomeAt_realigns {c : Settings} {inputs : CycleInputs} {s : State} {e : Entry}
    (h : (outcomeAt c inputs s e).realigns = true) :
    some e.code ∈ s.correlator.lanes ∧ e.offset ≠ none := by
  by_cases hopen : some e.code ∈ s.correlator.lanes
  · refine ⟨hopen, fun hnone => ?_⟩
    rw [outcomeAt_of_lane hopen, entryAtCycleEnd_eq] at h
    simp only [acceptsFrame, Entry.confirms, hnone, Bool.and_false, Bool.or_false, Bool.and_eq_true,
      decide_eq_true_eq] at h
    exact h.1.2 h.1.1.2
  · simp [outcomeAt_of_no_lane hopen, entryWithoutResult] at h

/-- The codes of the entries that were heard in some way (R103, R106). -/
theorem mem_heardCodes {c : Settings} {inputs : CycleInputs} {s : State} {test : EntryOutcome → Bool}
    {heard : Entry → Bool} (hlane : ∀ e, test (entryWithoutResult e) = false)
    (hsame : ∀ e, some e.code ∈ s.correlator.lanes → test (outcomeAt c inputs s e) = heard e)
    (htest : ∀ o entry, test { o with entry := entry } = test o) (w : Nat) :
    (w ∈ (((entriesOf (readAtEnd c inputs s).table.slots).map (outcomeAt c inputs s)).filter
        test).map fun o => o.entry.code) ↔
      ∃ k e, s.table.slots[k]? = some (some e) ∧ e.parityGood = true ∧ k ∉ inputs.ended ∧
        some e.code ∈ s.correlator.lanes ∧ e.code = w ∧ heard e = true := by
  rw [← exists_heard_iff (c := c) (heard := fun e => test (outcomeAt c inputs s e))
    (fun e he => ?_) hsame (fun e => e.code = w)]
  · simp only [List.mem_map, List.mem_filter]
    constructor
    · rintro ⟨o, ⟨⟨e, he, rfl⟩, ho⟩, hw⟩
      exact ⟨e, he, by simpa using hw, ho⟩
    · rintro ⟨e, he, hw, ho⟩
      exact ⟨_, ⟨⟨e, he, rfl⟩, ho⟩, by simpa using hw⟩
  · by_contra hopen
    rw [outcomeAt_of_no_lane hopen, htest, hlane] at he
    exact Bool.noConfusion he

end Sys2Proof.Machine

namespace Sys2Proof.Proofs
open Sys2Proof.Machine Sys2Proof.Safety

/-- Settles O16: the new cycle block by block, and what the ended one hands to each entry. -/
theorem cycleEndTurnsTimer : Obligations.CycleEndTurnsTimer := by
  intro inputs s hheld hposition
  obtain ⟨heard, hedge, hnext, hheard⟩ := cycleEnded_edge inputs s
  obtain ⟨hkheld, hload, hlines, hbus, hwire, hconfig, hsurvey, hcapture, hservice, hphase, hwindow,
    hcount, hframe⟩ := cycleEnded_kept inputs s
  obtain ⟨hlow, hhigh⟩ := cycleEnded_length inputs s
  obtain ⟨hbit, hkeyed, hkeying⟩ := cycleEnded_keying inputs s
  have hcorrelator := cycleEnded_correlator inputs s
  refine ⟨_, _, exec_cycleEnded inputs hheld, by simpa using hedge, ?_⟩
  simp only [drive_fields]
  refine ⟨hphase, hlow, hhigh, hwindow, trivial, trivial, fun h31 => ?_, fun h31 => ?_, hcount,
    hframe, ?_, hkeyed, hkeying, ⟨_, rfl, ?_⟩, hcorrelator.trans (by rw [hcorrelator]),
    cycleEnded_supervisor inputs s, cycleEnded_regulation inputs s, hkheld, hload, hlines, hbus, hwire,
    hconfig, hsurvey, hcapture, hservice, ?_, ?_, trivial, trivial, rfl, ?_, ?_, ?_, ?_, ?_⟩
  · simp [boundaryOf, hnext, h31]
  · cases hrealign : heard.realign
    · exact .inl ⟨by simp [boundaryOf, h31], by simp [hnext, hrealign]; omega⟩
    · exact .inr ⟨by simp [boundaryOf, h31], by simp [hnext, hrealign]⟩
  · exact hbit
  · rw [cycleEnded_front, samples_eq_decide]
    simp [clearFront, State.reset]
  · intro hoffsets hforced
    have hrealign : heard.realign = true := by
      unfold boundaryOf at hforced
      split at hforced
      · simp at hforced
      · simpa using hforced
    cases hc : s.config with
    | none => simp [hheard, hc] at hrealign
    | some c =>
      rw [hheard, hc] at hrealign
      dsimp only at hrealign
      rw [(blocksAt_table c inputs s).2.2, List.any_map, List.any_eq_true] at hrealign
      obtain ⟨e, he, hrealigns⟩ := hrealign
      obtain ⟨hopen, hoffset⟩ := of_outcomeAt_realigns hrealigns
      obtain ⟨k, hk⟩ := mem_entriesOf_iff_getElem?.mp he
      obtain ⟨hk', -⟩ := (readAtEnd_of_lane hopen).mp hk
      exact hoffset (hoffsets e (mem_entriesOf_of_getElem? hk'))
  · simp [dwellEnds, and_assoc]
  · rw [hcorrelator]
  · rw [hcorrelator]
    rfl
  · intro own hown lane w hlane hlane'
    rw [hcorrelator]
    exact boundCodes_getElem? (slotsOk_cycleEnded hown) hlane hlane'
  · intro hc
    simp [hheard, hc]
  · intro c usable result outcome hc husable hresult houtcome
    obtain ⟨-, -, hblocks⟩ := blocksAt_table c inputs s
    rw [hc] at hheard
    dsimp only at hheard
    rw [← cycleUsable_ranOut] at husable
    have hsame : ∀ e, some e.code ∈ s.correlator.lanes →
        (outcomeAt c inputs s e).accepted = (outcome e).accepted ∧
          (outcomeAt c inputs s e).aligned = (outcome e).aligned := by
      intro e hopen
      obtain ⟨-, -, haccepted, haligned, -⟩ := entryAtCycleEnd_congr c (ownAt c inputs s)
        s.supervisor.condition (stationDecodes s) s.timer.position
        ((s.frames.cycleCount + 1) % 65536)
        (e.lane.bind fun lane => (readAtEnd c inputs s).frames.watches.getD (lane - 1) none)
        (e.lane.bind fun lane => s.frames.watches.getD (lane - 1) none) (result e.code) e
      rw [outcomeAt_of_lane hopen, houtcome, hcount, ← husable, ← hresult]
      exact ⟨haccepted, haligned⟩
    refine ⟨fun hform k e hk hgood hended hstarted => ?_, fun w => ⟨?_, ?_⟩, fun hnone hgood => ?_,
      fun h31 hloss => ?_⟩
    · obtain ⟨hentry, hwatch⟩ := cycleEnded_entry hc hform hk hgood hended hstarted
      have hwatches : (e.lane.bind fun lane =>
            (readAtEnd c inputs s).frames.watches.getD (lane - 1) none) =
          e.lane.bind fun lane => s.frames.watches.getD (lane - 1) none := by
        cases hlane : e.lane with
        | none => rfl
        | some lane =>
          simp only [Option.bind_some, List.getD_eq_getElem?_getD, (hwatch lane hlane).1]
      have houtcomes : some e.code ∈ s.correlator.lanes →
          (outcomeAt c inputs s e).entry =
              (outcome e).entry.dropStale ((s.frames.cycleCount + 1) % 65536) ∧
            (outcomeAt c inputs s e).watch = (outcome e).watch := by
        intro hopen
        obtain ⟨hentry', hwatch', -⟩ := entryAtCycleEnd_congr c (ownAt c inputs s)
          s.supervisor.condition (stationDecodes s) s.timer.position
          ((s.frames.cycleCount + 1) % 65536)
          (e.lane.bind fun lane => s.frames.watches.getD (lane - 1) none) none (result e.code) e
        rw [outcomeAt_of_lane hopen, houtcome, hcount, ← husable, ← hresult, hwatches]
        exact ⟨congrArg (Entry.dropStale _) hentry', hwatch'⟩
      rw [hcount]
      refine ⟨fun hopen => ?_, fun hclosed => ?_, fun hlength lane hlane => ?_⟩
      · rw [hentry, (houtcomes hopen).1]
      · rw [hentry, outcomeAt_of_no_lane hclosed]
      · rw [(hwatch lane hlane).2 hlength]
        split
        · rename_i hopen
          rw [(houtcomes hopen).2]
        · rfl
    · rw [hheard, hblocks]
      exact mem_heardCodes (fun _ => rfl) (fun e hopen => (hsame e hopen).1) (fun _ _ => rfl) w
    · rw [hheard, hblocks]
      exact mem_heardCodes (fun _ => rfl) (fun e hopen => (hsame e hopen).2) (fun _ _ => rfl) w
    · obtain ⟨hlength, -⟩ := cycleEnded_blocks inputs hc
      have hslots : (endedState inputs (ranOut s)).table.slots = s.table.slots := by
        rw [endedState, upsetEntries_slots]
        simpa using mapSlots_eq_self fun k e _ => by
          rw [strike_of_notMem (by simp [hnone])]
      have herror := cycleError_of_good (c := c) (s0 := ranOut s)
        (s := endedState inputs (ranOut s)) (by rwa [hslots])
      simp only [hslots, ranOut_fields, ranOut_values, ← husable, ← hresult] at herror
      have hbounds := adjustmentOf_of_le (errorAt_le (c := c) (inputs := inputs) (s := s))
      rw [hlength, ← herror]
      exact Int.toNat_of_nonneg (by omega)
    · have hlost : lockLost (reportAt c s) (endedState inputs (ranOut s)) = false :=
        agreeAtCycleEnd_not_lost (by simpa using hloss)
      have hown : ownAt c inputs s = s.supervisor.condition := by
        simp [ownAt, decidingCondition, hlost]
      have hrealigns := exists_heard_iff (c := c) (inputs := inputs) (s := s)
        (heard := fun e => (outcomeAt c inputs s e).realigns)
        (heard' := fun e => (outcome e).realigns) (fun e he => (of_outcomeAt_realigns he).1)
        (fun e hopen => by
          obtain ⟨-, -, -, -, hrealigns⟩ := entryAtCycleEnd_congr c s.supervisor.condition
            s.supervisor.condition (stationDecodes s) s.timer.position
            ((s.frames.cycleCount + 1) % 65536)
            (e.lane.bind fun lane => (readAtEnd c inputs s).frames.watches.getD (lane - 1) none)
            (e.lane.bind fun lane => s.frames.watches.getD (lane - 1) none) (result e.code) e
          rw [outcomeAt_of_lane hopen, houtcome, hcount, ← husable, ← hresult, hown]
          exact hrealigns) fun _ => True
      simp only [true_and] at hrealigns
      rw [← hrealigns, hheard, hblocks]
      simp [boundaryOf, h31]

end Sys2Proof.Proofs
end

section
/-! PROOFS. The dwell's end and the table's own work: the next dwell code, admission, the ranking of waiters, the
arbitration, and what an entry takes (R51, R52, R56 to R67, R83 to R86, R97 to R105). -/

namespace Sys2Proof.Machine
open Sys2Proof.Safety

/-! ### The next dwell code (R52) -/

/-- The number `k` places after a dwell code, wrapping from 63 to 1. -/
def dwellAfter (code k : Nat) : Nat := (code - 1 + k) % 63 + 1

/-- The search for the next dwell code stops at the first eligible number, or finds none in its reach. -/
theorem nextDwell_spec (own : Nat) (passed : List Nat) (n code : Nat) (hlow : 1 ≤ code)
    (hhigh : code ≤ 63) :
    (∃ d, 1 ≤ d ∧ d ≤ n ∧ nextDwell own passed n code = dwellAfter code d ∧
        dwellAfter code d ≠ own ∧ dwellAfter code d ∉ passed ∧
        ∀ k, 1 ≤ k → k < d → dwellAfter code k = own ∨ dwellAfter code k ∈ passed) ∨
      ∀ k, 1 ≤ k → k ≤ n → dwellAfter code k = own ∨ dwellAfter code k ∈ passed := by
  induction n generalizing code with
  | zero => exact .inr fun k hk hk' => by omega
  | succ n ih =>
    have hnext : (if 63 ≤ code then 1 else code + 1) = dwellAfter code 1 := by
      unfold dwellAfter
      split <;> omega
    have hshift : ∀ k, dwellAfter (dwellAfter code 1) k = dwellAfter code (k + 1) := fun k => by
      unfold dwellAfter
      omega
    unfold nextDwell
    dsimp only
    rw [hnext]
    by_cases hpassed : dwellAfter code 1 = own ∨ dwellAfter code 1 ∈ passed
    · have hfirst : ∀ m, (∀ k, 1 ≤ k → k < m + 1 →
          dwellAfter (dwellAfter code 1) k = own ∨ dwellAfter (dwellAfter code 1) k ∈ passed) →
          ∀ k, 1 ≤ k → k < m + 2 → dwellAfter code k = own ∨ dwellAfter code k ∈ passed := by
        intro m hm k hk hk'
        rcases Nat.eq_or_lt_of_le hk with rfl | hk
        · exact hpassed
        · have := hm (k - 1) (by omega) (by omega)
          rwa [hshift, Nat.sub_add_cancel (by omega)] at this
      rw [if_pos (by simpa using hpassed)]
      rcases ih (dwellAfter code 1) (by simp [dwellAfter]) (by unfold dwellAfter; omega) with
        ⟨d, hd, hdn, heq, hown, hnot, hbefore⟩ | hnone
      · rw [hshift] at heq hown hnot
        refine .inl ⟨d + 1, by omega, by omega, heq, hown, hnot, fun k hk hkd => ?_⟩
        obtain ⟨m, rfl⟩ : ∃ m, d = m + 1 := ⟨d - 1, by omega⟩
        exact hfirst m hbefore k hk hkd
      · exact .inr fun k hk hkn => hfirst n (fun j hj hjn => hnone j hj (by omega)) k hk (by omega)
    · rw [if_neg (by simpa using hpassed)]
      obtain ⟨hown, hnot⟩ := not_or.mp hpassed
      exact .inl ⟨1, le_refl 1, by omega, rfl, hown, hnot, fun k hk hk' => by omega⟩

/-- At most eight codes passed over leave an eligible number among the sixty-three. -/
theorem exists_eligible {own code : Nat} {passed : List Nat} (hlow : 1 ≤ code) (hhigh : code ≤ 63)
    (hpassed : passed.length ≤ 8) :
    ∃ k, 1 ≤ k ∧ k ≤ 63 ∧ dwellAfter code k ≠ own ∧ dwellAfter code k ∉ passed := by
  by_contra hnone
  push Not at hnone
  have hall : Finset.Icc 1 63 ⊆ insert own passed.toFinset := by
    intro x hx
    rw [Finset.mem_Icc] at hx
    obtain ⟨k, hk, hk', rfl⟩ : ∃ k, 1 ≤ k ∧ k ≤ 63 ∧ dwellAfter code k = x := by
      unfold dwellAfter
      by_cases hlt : code < x
      · exact ⟨x - code, by omega, by omega, by omega⟩
      · exact ⟨x + 63 - code, by omega, by omega, by omega⟩
    by_cases hown : dwellAfter code k = own
    · simp [hown]
    · simpa using .inr (hnone k hk hk' hown)
  have hcard := (Finset.card_le_card hall).trans (Finset.card_insert_le _ _)
  have hlist := passed.toFinset_card_le
  simp only [Nat.card_Icc] at hcard
  omega

/-! ### The choice among entries -/

/-- A fold that keeps the better of two ends with one that is better than all the others. -/
theorem foldl_choose_eq {α : Type} {choose : Option α → α → Option α} {better : α → α → Bool}
    (hnone : ∀ e, choose none e = some e)
    (hsome : ∀ b e, choose (some b) e = if better e b then some e else some b) {xs : List α} {x : α}
    (hx : x ∈ xs) (hbest : ∀ y ∈ xs, y = x ∨ (better x y = true ∧ better y x = false)) :
    xs.foldl choose none = some x := by
  have hgen : ∀ (ys : List α) (o : Option α), (∀ y ∈ ys, y ∈ xs) → (∀ b, o = some b → b ∈ xs) →
      (o = some x ∨ x ∈ ys) → ys.foldl choose o = some x := by
    intro ys
    induction ys with
    | nil =>
      intro o _ _ h
      simpa using h
    | cons y ys ih =>
      intro o hys ho h
      have hy : y ∈ xs := hys y List.mem_cons_self
      have hstep : ∀ b, choose o y = some b → b ∈ xs := by
        intro b hb
        cases o with
        | none =>
          rw [hnone] at hb
          exact Option.some.inj hb ▸ hy
        | some a =>
          rw [hsome] at hb
          split at hb
          · exact Option.some.inj hb ▸ hy
          · exact Option.some.inj hb ▸ ho a rfl
      refine ih _ (fun z hz => hys z (List.mem_cons_of_mem y hz)) hstep ?_
      rcases h with h | h
      · left
        rw [h, hsome]
        rcases hbest y hy with rfl | ⟨-, hworse⟩
        · simp
        · simp [hworse]
      · rcases List.mem_cons.mp h with rfl | h
        · left
          cases o with
          | none => exact hnone x
          | some a =>
            rw [hsome]
            rcases hbest a (ho a rfl) with rfl | ⟨hbetter, -⟩
            · simp
            · simp [hbetter]
        · exact .inr h
  exact hgen xs none (fun _ h => h) (by simp) (.inr hx)

/-- The weakest of some entries on distinct codes: the smallest g, and where equal the highest code (R58, R66). -/
theorem weakest_eq {es : List Entry} {w : Entry} (hw : w ∈ es)
    (hcodes : ∀ e ∈ es, e.code = w.code → e = w)
    (h : ∀ e ∈ es, w.g < e.g ∨ (w.g = e.g ∧ e.code ≤ w.code)) : weakest es = some w := by
  refine foldl_choose_eq (better := fun e b => e.g < b.g || (e.g = b.g && b.code < e.code))
    (fun _ => rfl) (fun _ _ => rfl) hw fun e he => ?_
  by_cases hcode : e.code = w.code
  · exact .inl (hcodes e he hcode)
  · right
    have := h e he
    simp only [Bool.or_eq_true, Bool.and_eq_true, decide_eq_true_eq, Bool.or_eq_false_iff,
      Bool.and_eq_false_iff, decide_eq_false_iff_not]
    omega

theorem outranks_of_states {a b : Entry} (ha : a.state = .candidate ∨ a.state = .parked)
    (hb : b.state = .candidate ∨ b.state = .parked) (h : outranks a b = true) :
    outranks b a = false := by
  rcases ha with ha | ha <;> rcases hb with hb | hb <;>
    simp only [outranks, ha, hb, Bool.or_eq_true, Bool.and_eq_true, decide_eq_true_eq,
      Bool.or_eq_false_iff, Bool.and_eq_false_iff, decide_eq_false_iff_not, reduceCtorEq] at h ⊢ <;>
    omega

theorem mem_waitersOf {slots : List (Option Entry)} {e : Entry} :
    e ∈ waitersOf slots ↔ e ∈ entriesOf slots ∧ (e.state = .candidate ∨ e.state = .parked) := by
  rw [waitersOf, List.mem_filter]
  cases hstate : e.state <;> simp [Entry.isTracked, hstate]

/-- The best waiter is the one that outranks all the others (R64). -/
theorem bestWaiter_eq {slots : List (Option Entry)} {b : Entry} (hb : b ∈ waitersOf slots)
    (h : ∀ b' ∈ waitersOf slots, b' = b ∨ outranks b b' = true) : bestWaiter slots = some b := by
  refine foldl_choose_eq (better := outranks) (fun _ => rfl) (fun _ _ => rfl) hb fun e he => ?_
  exact (h e he).imp_right fun hranks =>
    ⟨hranks, outranks_of_states (mem_waitersOf.mp hb).2 (mem_waitersOf.mp he).2 hranks⟩

theorem evictionDue_iff {c : Settings} {least : Nat} {slots : List (Option Entry)} :
    evictionDue c least slots = true ↔
      ∃ e ∈ waitersOf slots,
        (e.state = .parked ∧ c.refresh / 2 ≤ e.age) ∨ (e.state = .candidate ∧ least < e.g) := by
  rw [evictionDue, List.any_eq_true]
  refine exists_congr fun e => and_congr_right fun _ => ?_
  cases hstate : e.state <;> simp

theorem arbitrate_of_free {c : Settings} {slots : List (Option Entry)} {b : Entry} {lane : Nat}
    (hb : bestWaiter slots = some b) (h : (freeLanes slots).head? = some lane) :
    arbitrate c slots = (changeCode b.code (Entry.openTo lane) slots, some lane) := by
  obtain ⟨rest, hlanes⟩ := List.head?_eq_some_iff.mp h
  simp [arbitrate, hb, hlanes]

theorem arbitrate_of_full {c : Settings} {slots : List (Option Entry)} {b w : Entry} {lane : Nat}
    (hb : bestWaiter slots = some b) (hfree : freeLanes slots = [])
    (hw : weakest ((entriesOf slots).filter Entry.isTracked) = some w) (hlane : w.lane = some lane) :
    arbitrate c slots =
      if evictionDue c w.g slots then
        (changeCode b.code (Entry.openTo lane) (changeCode w.code Entry.evict slots), some lane)
      else (slots, none) := by
  simp [arbitrate, hb, hfree, hw, hlane]

/-! ### Admission (R56 to R58) -/

theorem admitOffer_of_refused {own code figure : Nat} {slots : List (Option Entry)}
    (h : code = own ∨ code ∈ codesOf slots) : admitOffer own code figure slots = slots := by
  rw [admitOffer, if_pos (by simpa using h)]

theorem admitOffer_of_free {own code figure k : Nat} {slots : List (Option Entry)}
    (hown : code ≠ own) (hheld : code ∉ codesOf slots) (hk : slots[k]? = some none)
    (hlowest : ∀ j < k, slots[j]? ≠ some none) :
    admitOffer own code figure slots = slots.set k (some (newEntry code figure)) := by
  have hfind : slots.findIdx? Option.isNone = some k := by
    obtain ⟨hlt, hget⟩ := List.getElem?_eq_some_iff.mp hk
    rw [List.findIdx?_eq_some_iff_getElem]
    refine ⟨hlt, by simp [hget], fun j hj => ?_⟩
    have := hlowest j hj
    rw [List.getElem?_eq_getElem (by omega)] at this
    simpa using this
  rw [admitOffer, if_neg (by simp [hown, hheld]), hfind]
  rfl

/-- In a full table the offer stands against the weakest PARKED entry, if any (R58). -/
theorem admitOffer_of_full {own code figure : Nat} {slots : List (Option Entry)}
    (hown : code ≠ own) (hheld : code ∉ codesOf slots) (hfull : ∀ o ∈ slots, o ≠ none) :
    admitOffer own code figure slots =
      match weakest ((entriesOf slots).filter fun e => e.state = .parked) with
      | some e =>
        if e.g < figure then
          match slotOf e.code slots with
          | some k => putEntry k (newEntry code figure) slots
          | none => slots
        else slots
      | none => slots := by
  have hfind : slots.findIdx? Option.isNone = none := by
    rw [List.findIdx?_eq_none_iff]
    intro o ho
    simpa using Option.ne_none_iff_isSome.mp (hfull o ho)
  rw [admitOffer, if_neg (by simp [hown, hheld]), hfind] <;> rfl

theorem slotOf_eq {slots : List (Option Entry)} (h : (codesOf slots).Nodup) {k : Nat} {e : Entry}
    (hk : slots[k]? = some (some e)) : slotOf e.code slots = some k := by
  obtain ⟨hlt, hget⟩ := List.getElem?_eq_some_iff.mp hk
  rw [slotOf, List.findIdx?_eq_some_iff_getElem]
  refine ⟨hlt, by simp [hget], fun j hj hany => ?_⟩
  cases hslot : slots[j] with
  | none => simp [hslot] at hany
  | some e' =>
    have hcode : e'.code = e.code := by simpa [hslot] using hany
    have hj' : slots[j]? = some (some e') := by
      rw [List.getElem?_eq_getElem (by omega), hslot]
    exact absurd (slot_eq_of_code h hj' hk hcode) (by omega)

/-! ### The frame watch (R101, R102) -/

theorem watchAfter_eq (now : Nat) (found : Option FrameRecord) (watch : Option Nat) (discarded : Nat) :
    watchAfter now found.isSome watch discarded =
      (if found ≠ none ∨ watch = some now then some ((now + 32) % 65536) else watch,
        if found = none ∧ watch = some now then min 255 (discarded + 1) else discarded) := by
  cases found with
  | some f => simp [watchAfter]
  | none =>
    cases watch with
    | none => simp [watchAfter]
    | some due =>
      by_cases h : due = now
      · simp [watchAfter, h, countUp]
      · simp [watchAfter, h]

theorem realigns_iff {own : Condition} {ownCode : Nat} {sender : FrameCondition}
    {senderCode offset : Nat} :
    realigns own ownCode sender senderCode offset = true ↔
      (own = .acquiring ∧ sender ≠ .acquiring) ∨
        ((own = .acquiring ∨ sender = .regulating ∨ sender = .survey) ∧
          (offset ≤ 15 ∨ (offset = 16 ∧ ownCode < senderCode))) := by
  unfold realigns
  split_ifs with hfirst hsecond
  · simp_all
  · simp_all
    grind
  · simp_all

theorem confirms_iff {now o : Nat} {e : Entry} :
    e.confirms now o = true ↔
      ∃ q, e.offset = some q ∧ q.offset = o ∧ countsSince now q.count = 32 := by
  unfold Entry.confirms
  cases e.offset <;> simp

end Sys2Proof.Machine

namespace Sys2Proof.Proofs
open Sys2Proof.Machine Sys2Proof.Safety

/-- Settles O25: the dwell end taken at once, or left to a boundary. -/
theorem dwellEndOffersAndMoves : Obligations.DwellEndOffersAndMoves := by
  intro c g s hheld hc hedge hdue hwaiting
  have hexec : exec .dwellEnd s = .next (takeDwellEnd c g s) := by
    simp [exec, execDwellEnd, hc, hedge, hheld]
  have hoffer : ∀ f, 0 < s.correlator.dwellCount →
      f = (roundDiv s.correlator.dwellSum s.correlator.dwellCount).toNat → c.gDetect ≤ f →
      s.correlator.dwellCode ∉ codesOf s.table.slots →
      dwellOffer c s = some (s.correlator.dwellCode, f) := by
    rintro f hcount rfl hdetect hheldCode
    simp [dwellOffer, dwellFigure, Nat.ne_of_gt hcount, hdetect, hheldCode]
  have hnone : s.correlator.dwellCount = 0 ∨ s.correlator.dwellCode ∈ codesOf s.table.slots ∨
      (roundDiv s.correlator.dwellSum s.correlator.dwellCount).toNat < c.gDetect →
      dwellOffer c s = none := by
    intro h
    unfold dwellOffer dwellFigure
    split_ifs with hcount
    · rfl
    · dsimp only
      rw [if_neg]
      simp only [Bool.and_eq_true, decide_eq_true_eq, Bool.not_eq_true', List.contains_eq_mem,
        decide_eq_false_iff_not, not_and, not_not]
      intro hdetect
      exact (h.resolve_left hcount).resolve_right (by omega)
  cases hb : g.boundary with
  | none =>
    obtain ⟨slots, htaken, hslots⟩ := takeDwellEnd_at_once (c := c) hdue hwaiting hb
    refine ⟨_, { g with dwellDue := false }, hexec, ?_⟩
    rw [htaken]
    refine ⟨rfl, rfl, by simp, by simp [hb], fun _ => rfl, rfl, fun f hcount hf hdetect hcode => ?_,
      fun h => ?_⟩
    · refine ⟨fun _ => ?_, fun h => absurd rfl h⟩
      rw [hoffer f hcount hf hdetect hcode] at hslots
      exact hslots
    · rw [hnone h] at hslots
      simp [hslots]
  | some kind =>
    have htaken := takeDwellEnd_at_boundary c hedge (by simp [hb])
    refine ⟨_, boundaryEdge c g s, hexec, ?_⟩
    rw [htaken]
    have hdone : dwellTaken g s = true := by simp [dwellTaken, hdue, hwaiting]
    refine ⟨by simp [boundaryStart], by simp [boundaryStart, hdone, moveDwell], by simp,
      by simp [boundaryEdge, hwaiting, hb], by simp, by simp, fun f hcount hf hdetect hcode => ?_,
      fun h => ?_⟩
    · simp [boundaryEdge, hdone, hoffer f hcount hf hdetect hcode]
    · simp [boundaryEdge, hdone, hnone h]

/-- Settles O26: the search reaches an eligible code before it has gone round. -/
theorem nextDwellIsFirstEligible : Obligations.NextDwellIsFirstEligible := by
  intro own code passed _ _ hlow hhigh hpassed
  rcases nextDwell_spec own passed 63 code hlow hhigh with
    ⟨d, hd, hdn, heq, hown, hnot, hbefore⟩ | hnone
  · exact ⟨d, hd, hdn, heq, heq ▸ hown, heq ▸ hnot, hbefore⟩
  · obtain ⟨k, hk, hkn, hown, hnot⟩ := exists_eligible (own := own) hlow hhigh hpassed
    exact ((hnone k hk hkn).elim hown hnot).elim

/-- Settles O27: refusal, the lowest free slot, and the weakest PARKED entry of a full table. -/
theorem admissionChoosesSlot : Obligations.AdmissionChoosesSlot := by
  intro own code figure slots hcodes
  refine ⟨admitOffer_of_refused, fun hown hheld => ⟨newEntry code figure, rfl, fun k hk hlowest =>
    admitOffer_of_free hown hheld hk hlowest, fun hfull => ?_⟩⟩
  rw [admitOffer_of_full hown hheld hfull]
  refine ⟨fun k e hk hparked hleast => ?_, fun hnone => ?_⟩
  · have hweakest : weakest ((entriesOf slots).filter fun e => e.state = .parked) = some e := by
      refine weakest_eq ?_ (fun e' he' hcode => ?_) fun e' he' => ?_
      · simp [mem_entriesOf_of_getElem? hk, hparked]
      · exact eq_of_code hcodes (List.mem_filter.mp he').1 (mem_entriesOf_of_getElem? hk) hcode
      · obtain ⟨hmem, hstate⟩ := List.mem_filter.mp he'
        exact hleast e' hmem (by simpa using hstate)
    rw [hweakest]
    simp only [slotOf_eq hcodes hk]
    exact ⟨fun h => if_pos h, fun h => if_neg (by omega)⟩
  · have hempty : ((entriesOf slots).filter fun e => e.state = .parked) = [] := by
      simpa using hnone
    rw [hempty]
    rfl

/-- Settles O28: the ranking of the waiters, and the lane the arbiter opens. -/
theorem arbiterOpensOneLane : Obligations.ArbiterOpensOneLane := by
  refine ⟨fun a b => ⟨fun ha hb => by simp [outranks, ha, hb], fun ha hb => ?_, fun ha hb => ?_⟩,
    fun code f slots => ?_, fun own c slots hform => ⟨?_, ?_, fun hnone => ?_, ?_⟩⟩
  · simp only [outranks, ha, hb, Bool.or_eq_true, Bool.and_eq_true, decide_eq_true_eq]
    omega
  · simp only [outranks, ha, hb, Bool.or_eq_true, Bool.and_eq_true, decide_eq_true_eq]
    omega
  · apply List.map_congr_left
    intro o _
    cases o <;> rfl
  · apply List.filter_congr
    intro e _
    cases hstate : e.state <;> simp [Entry.isTracked, hstate]
  · apply List.filter_congr
    intro lane _
    rw [Bool.eq_iff_iff, Option.isNone_iff_eq_none, decide_eq_true_eq,
      Option.eq_none_iff_forall_ne_some]
    simp only [ne_eq, holderOf_eq_some_iff hform, not_and]
  · simp [arbitrate, bestWaiter, hnone]
  · intro b hb hbest
    have hbestWaiter := bestWaiter_eq hb hbest
    refine ⟨fun lane hlane => arbitrate_of_free hbestWaiter hlane, fun hfree w hw lane hlane hleast => ?_⟩
    have hweakest : weakest ((entriesOf slots).filter Entry.isTracked) = some w := by
      refine weakest_eq ?_ (fun e he hcode => ?_) fun e he => ?_
      · exact List.mem_filter.mpr ⟨hw, isTracked_of_lane (entryOk_of_mem hform hw) hlane⟩
      · exact eq_of_code hform.2.1 (List.mem_filter.mp he).1 hw hcode
      · obtain ⟨hmem, htracked⟩ := List.mem_filter.mp he
        exact hleast e hmem ((isTracked_iff_lane (entryOk_of_mem hform hmem)).mp htracked)
    rw [arbitrate_of_full hbestWaiter hfree hweakest hlane]
    refine ⟨fun hdue => if_pos (evictionDue_iff.mpr hdue), fun hnot => if_neg fun hdue => ?_⟩
    obtain ⟨e, he, h⟩ := evictionDue_iff.mp hdue
    exact hnot e he h

/-- Settles O29: the entry's own operations, and what a lane's result makes of it. -/
theorem frameFigureUpdatesEntry : Obligations.FrameFigureUpdatesEntry := by
  intro c e
  refine ⟨fun h => by simp [Entry.closeFrame, Entry.figure, h, Entry.written, countUp],
    fun f hcount hf => ?_, fun h => by simp [Entry.atBoundary, Entry.isTracked, h],
    fun h => by simp [Entry.atBoundary, Entry.isTracked, h, Entry.written, countUp, removalLimit], rfl,
    fun lane => rfl, fun accepted => ?_,
    fun own decodes p now watch r o found hp ho hfound => ?_⟩
  · subst hf
    simp [Entry.closeFrame, Entry.figure, Nat.ne_of_gt hcount, Entry.written, countUp, smooth, clampInt]
  · simp [Entry.ageRecord, Entry.written, countUp]
  · rw [entryAtCycleEnd_eq] at ho
    have hheard : heardFrame decodes r e = found := hfound.symm
    rw [hheard] at ho
    subst ho
    refine ⟨?_, ?_, ?_, ?_, ?_, fun q hq => by simp [Entry.dropStale, hq],
      fun hnone => by simp [Entry.dropStale, hnone]⟩
    · dsimp only
      rw [watchAfter_eq]
    · dsimp only
      rw [watchAfter_eq]
    · simp [Option.isSome_iff_ne_none]
    · simp [acceptsFrame, Option.isSome_iff_ne_none, confirms_iff]
    · simp [Option.any_eq_true, realigns_iff, and_assoc]

end Sys2Proof.Proofs
end

section
/-! PROOFS. The table through a boundary (R60, R70, R71): its reads change nothing where every entry they cover is good, and
what they leave out no later block would have read. -/

namespace Sys2Proof.Machine
open Sys2Proof.Safety

/-! ### Readings of the entries -/

/-- What a function reads of the entries stands where each entry that goes, or changes, reads as it did. -/
theorem filterMap_mapSlots_eq {α : Type} (φ : Entry → Option α) {f : Nat → Entry → Option Entry}
    (slots : List (Option Entry))
    (h : ∀ k e, slots[k]? = some (some e) → (f k e).bind φ = φ e) :
    (entriesOf (mapSlots f slots)).filterMap φ = (entriesOf slots).filterMap φ := by
  induction slots generalizing f with
  | nil => simp [mapSlots]
  | cons o slots ih =>
    have hcons : mapSlots f (o :: slots) = o.bind (f 0) :: mapSlots (fun k => f (k + 1)) slots := by
      apply List.ext_getElem?
      rintro (_ | k) <;> rw [getElem?_mapSlots] <;> simp
    have htail := ih (f := fun k => f (k + 1)) fun k e hk => h (k + 1) e (by simpa using hk)
    rw [hcons]
    cases o with
    | none => exact htail
    | some e =>
      have hhead := h 0 e rfl
      rw [Option.bind_some, entriesOf_cons_some, List.filterMap_cons]
      cases hf : f 0 e with
      | none =>
        rw [hf, Option.bind_none] at hhead
        rw [entriesOf_cons_none, ← hhead]
        exact htail
      | some e' =>
        rw [hf, Option.bind_some] at hhead
        rw [entriesOf_cons_some, List.filterMap_cons, hhead, htail]

/-- Every entry that a test picks out is good (R70). -/
def GoodWhere (p : Entry → Bool) (slots : List (Option Entry)) : Prop :=
  ∀ e ∈ entriesOf slots, p e = true → e.parityGood = true

/-- A read leaves no failing entry among those it covers (R71). -/
theorem goodWhere_checkParity {p : Entry → Bool} {read : Nat → Entry → Bool} (s : State)
    (h : ∀ k e, p e = true → read k e = true) : GoodWhere p (checkParity read s).table.slots := by
  rw [checkParity_slots]
  intro e' he' hp
  obtain ⟨k, e, -, hpass⟩ := mem_entriesOf_mapSlots.mp he'
  unfold passRead failsRead at hpass
  split_ifs at hpass with hfails
  obtain rfl := Option.some.inj hpass
  simpa [h k e hp] using hfails

theorem GoodWhere.checkParity {p : Entry → Bool} {s : State} (h : GoodWhere p s.table.slots)
    (read : Nat → Entry → Bool) : GoodWhere p (checkParity read s).table.slots := by
  rw [checkParity_slots]
  intro e' he' hp
  obtain ⟨k, e, hk, hpass⟩ := mem_entriesOf_mapSlots.mp he'
  unfold passRead at hpass
  split_ifs at hpass
  obtain rfl := Option.some.inj hpass
  exact h e (mem_entriesOf_of_getElem? hk) hp

/-- A read changes nothing that is read of good entries alone. -/
theorem filterMap_checkParity {α : Type} {φ : Entry → Option α} {s : State}
    (h : GoodWhere (fun e => (φ e).isSome) s.table.slots) (read : Nat → Entry → Bool) :
    (entriesOf (checkParity read s).table.slots).filterMap φ =
      (entriesOf s.table.slots).filterMap φ := by
  rw [checkParity_slots]
  refine filterMap_mapSlots_eq φ _ fun k e hk => ?_
  unfold passRead failsRead
  split_ifs with hfails
  · have hbad : e.parityGood = false := by
      simp only [Bool.and_eq_true, Bool.not_eq_true'] at hfails
      exact hfails.1
    cases hφ : φ e with
    | none => rfl
    | some x =>
      have := h e (mem_entriesOf_of_getElem? hk) (by simp [hφ])
      simp [hbad] at this
  · rfl

/-- A read of good entries changes nothing. -/
theorem checkParity_of_all_good {s : State} (h : ∀ e ∈ entriesOf s.table.slots, e.parityGood = true)
    (read : Nat → Entry → Bool) : checkParity read s = s := by
  have hempty : failingEntries read s.table.slots = [] := by
    rw [List.eq_nil_iff_forall_not_mem]
    rintro ⟨e, k⟩ hmem
    obtain ⟨hk, hfails⟩ := mem_failingEntries.mp hmem
    simp [failsRead, h e (mem_entriesOf_of_getElem? hk)] at hfails
  unfold checkParity
  rw [hempty]

/-! ### The table's own work leaves good entries -/

theorem good_of_atBoundary {c : Settings} {slots : List (Option Entry)} :
    ∀ e ∈ entriesOf (mapEntries (Entry.atBoundary c) slots), e.parityGood = true := by
  intro e' he'
  rw [mapEntries_eq_mapSlots] at he'
  obtain ⟨k, e, -, he⟩ := mem_entriesOf_mapSlots.mp he'
  obtain ⟨-, -, -, -, -, hgood⟩ := atBoundary_kept he
  exact hgood

theorem good_of_putEntry {k code figure : Nat} {slots : List (Option Entry)}
    (h : ∀ e ∈ entriesOf slots, e.parityGood = true) :
    ∀ e ∈ entriesOf (putEntry k (newEntry code figure) slots), e.parityGood = true := by
  intro e he
  rcases List.mem_or_eq_of_mem_set (mem_entriesOf.mp he) with hmem | hnew
  · exact h e (mem_entriesOf.mpr hmem)
  · obtain rfl := Option.some.inj hnew
    rfl

theorem good_of_admitOffer {own code figure : Nat} {slots : List (Option Entry)}
    (h : ∀ e ∈ entriesOf slots, e.parityGood = true) :
    ∀ e ∈ entriesOf (admitOffer own code figure slots), e.parityGood = true := by
  unfold admitOffer
  split
  · exact h
  · split
    · exact good_of_putEntry h
    · split
      · split
        · split
          · exact good_of_putEntry h
          · exact h
        · exact h
      · exact h

theorem good_of_changeCode {code : Nat} {f : Entry → Entry} {slots : List (Option Entry)}
    (hf : ∀ e, (f e).parityGood = true) (h : ∀ e ∈ entriesOf slots, e.parityGood = true) :
    ∀ e ∈ entriesOf (changeCode code f slots), e.parityGood = true := by
  intro e' he'
  rw [changeCode, mapEntries_eq_mapSlots] at he'
  obtain ⟨k, e, hk, he⟩ := mem_entriesOf_mapSlots.mp he'
  obtain rfl := Option.some.inj he
  split
  · exact hf e
  · exact h e (mem_entriesOf_of_getElem? hk)

theorem good_of_arbitrate {c : Settings} {slots : List (Option Entry)}
    (h : ∀ e ∈ entriesOf slots, e.parityGood = true) :
    ∀ e ∈ entriesOf (arbitrate c slots).1, e.parityGood = true := by
  have hopen : ∀ {slots : List (Option Entry)} (code lane : Nat),
      (∀ e ∈ entriesOf slots, e.parityGood = true) →
      ∀ e ∈ entriesOf (changeCode code (Entry.openTo lane) slots), e.parityGood = true :=
    fun _ _ h => good_of_changeCode (fun _ => rfl) h
  unfold arbitrate
  split
  · exact h
  · split
    · exact hopen _ _ h
    · split
      · exact h
      · split
        · exact hopen _ _ (good_of_changeCode (fun _ => rfl) h)
        · exact h

/-- The table's boundary work writes every entry it leaves with new parity (R60, R70). -/
theorem good_of_tableWork {c : Settings} {offer : Option (Nat × Nat)} {slots : List (Option Entry)} :
    ∀ e ∈ entriesOf (tableWork c offer slots).1, e.parityGood = true := by
  unfold tableWork
  dsimp only
  split
  · exact good_of_arbitrate (good_of_admitOffer good_of_atBoundary)
  · exact good_of_arbitrate good_of_atBoundary

/-! ### The stages' tables -/

theorem good_of_tableStage (c : Settings) (upsets : BoundaryUpsets) (g : CycleEdge) (s : State) :
    ∀ e ∈ entriesOf (tableStage c upsets g s).table.slots, e.parityGood = true := by
  rw [tableStage_slots]
  exact good_of_tableWork

theorem applyRead_of_no_upset {c : Settings} {upsets : BoundaryUpsets} {g : CycleEdge} {s : State}
    (h : upsets.apply = []) : applyRead c upsets g s = tableStage c upsets g s := by
  rw [applyRead, readForRegulation, h, upsetEntries_nil,
    checkParity_of_all_good (good_of_tableStage c upsets g s)]

/-- The table that the apply stage leaves is the one it read. -/
@[simp] theorem applyStage_table (c : Settings) (kind : BoundaryKind) (upsets : BoundaryUpsets)
    (g : CycleEdge) (s : State) :
    (applyStage c kind upsets g s).table = (applyRead c upsets g s).table ∧
      (applyStage c kind upsets g s).frames = (applyRead c upsets g s).frames := by
  simp [applyStage, applyBoundary]

@[simp] theorem superviseStage_table (c : Settings) (kind : BoundaryKind) (upsets : BoundaryUpsets)
    (g : CycleEdge) (s : State) :
    (superviseStage c kind upsets g s).table = (surveyRead c kind upsets g s).table ∧
      (superviseStage c kind upsets g s).frames = (surveyRead c kind upsets g s).frames := by
  simp [superviseStage_eq]

/-- The test of regulation's reads (R68, R70). -/
def presentedEntry (e : Entry) : Bool := e.isTracked && e.fresh

theorem good_of_applyRead (c : Settings) (upsets : BoundaryUpsets) (g : CycleEdge) (s : State) :
    GoodWhere presentedEntry (applyRead c upsets g s).table.slots := by
  rw [applyRead, readForRegulation]
  exact goodWhere_checkParity _ fun _ _ h => h

theorem good_of_surveyRead (c : Settings) (kind : BoundaryKind) (upsets : BoundaryUpsets)
    (g : CycleEdge) (s : State) : GoodWhere Entry.fresh (surveyRead c kind upsets g s).table.slots :=
  goodWhere_checkParity _ fun _ _ h => h

theorem good_of_planRead (c : Settings) (kind : BoundaryKind) (upsets : BoundaryUpsets)
    (g : CycleEdge) (s : State) :
    GoodWhere presentedEntry (planRead c kind upsets g s).table.slots := by
  rw [planRead, readForRegulation]
  exact goodWhere_checkParity _ fun _ _ h => h

/-- A reading of the coordinator's reads stands through the plan's read, no entry struck between. -/
theorem filterMap_planRead {α : Type} {φ : Entry → Option α} {c : Settings} {kind : BoundaryKind}
    {upsets : BoundaryUpsets} {g : CycleEdge} {s : State} (hplan : upsets.plan = [])
    (h : GoodWhere (fun e => (φ e).isSome) (surveyRead c kind upsets g s).table.slots) :
    (entriesOf (planRead c kind upsets g s).table.slots).filterMap φ =
      (entriesOf (surveyRead c kind upsets g s).table.slots).filterMap φ := by
  rw [planRead, readForRegulation, hplan, upsetEntries_nil, filterMap_checkParity (by simpa using h)]
  simp

/-- A reading of regulation's first read stands through the coordinator's, no entry struck between. -/
theorem filterMap_surveyRead {α : Type} {φ : Entry → Option α} {c : Settings} {kind : BoundaryKind}
    {upsets : BoundaryUpsets} {g : CycleEdge} {s : State} (hsurvey : upsets.survey = [])
    (h : GoodWhere (fun e => (φ e).isSome) (applyRead c upsets g s).table.slots) :
    (entriesOf (surveyRead c kind upsets g s).table.slots).filterMap φ =
      (entriesOf (applyRead c upsets g s).table.slots).filterMap φ := by
  rw [surveyRead, readForSurvey, hsurvey, upsetEntries_nil, filterMap_checkParity (by simpa using h)]
  simp

/-- The slots a boundary leaves, no entry struck as its cycle starts: those of the plan's read, with the failing
entries that no block read gone, and at a forced boundary the pending offsets. -/
theorem takenState_slots {c : Settings} {kind : BoundaryKind} {upsets : BoundaryUpsets}
    {g : CycleEdge} {s : State} (hstarted : upsets.started = []) :
    (takenState c kind upsets g s).table.slots =
      mapSlots (fun _ e => if e.parityGood then
          some (if kind = .forced then { e with offset := none } else e) else none)
        (planRead c kind upsets (boundaryEdge c g s) (boundaryStart c g s)).table.slots := by
  have hworked : (boundaryWorked c kind upsets g s).table.slots =
      (planRead c kind upsets (boundaryEdge c g s) (boundaryStart c g s)).table.slots := by
    simp [boundaryWorked]
  have hend : (takenState c kind upsets g s).table.slots =
      (readAll (frameBoundary kind (boundaryWorked c kind upsets g s))).table.slots := by
    simp [boundaryEnd_eq, takeBit, bindLanes, hstarted]
  have hpass : ∀ k e, passRead (fun _ _ => true) k e = if e.parityGood then some e else none := by
    intro k e
    cases hgood : e.parityGood <;> simp [passRead, failsRead, hgood]
  rw [hend, readAll, checkParity_slots]
  cases kind with
  | ordinary =>
    simp only [frameBoundary, State.setFrames_fields, hworked]
    refine mapSlots_congr fun k e _ => ?_
    rw [hpass]
    simp
  | forced =>
    simp only [frameBoundary, State.setTable_fields, readAll, checkParity_slots,
      State.setFrames_fields, hworked, mapEntries_eq_mapSlots, mapSlots_mapSlots]
    refine mapSlots_congr fun k e _ => ?_
    simp only [hpass]
    cases hgood : e.parityGood <;> simp [Entry.written]

/-- A reading of good entries alone, to which neither parity nor the pending offset matters, stands from the plan's
read to the boundary's end. -/
theorem filterMap_takenState {α : Type} {φ : Entry → Option α} {c : Settings} {kind : BoundaryKind}
    {upsets : BoundaryUpsets} {g : CycleEdge} {s : State} (hstarted : upsets.started = [])
    (hφ : ∀ e, φ { e with offset := none } = φ e)
    (h : GoodWhere (fun e => (φ e).isSome)
      (planRead c kind upsets (boundaryEdge c g s) (boundaryStart c g s)).table.slots) :
    (entriesOf (takenState c kind upsets g s).table.slots).filterMap φ =
      (entriesOf (planRead c kind upsets (boundaryEdge c g s)
        (boundaryStart c g s)).table.slots).filterMap φ := by
  rw [takenState_slots hstarted]
  refine filterMap_mapSlots_eq φ _ fun k e hk => ?_
  split_ifs with hgood hforced
  · exact hφ e
  · rfl
  · cases hread : φ e with
    | none => rfl
    | some x => exact absurd (h e (mem_entriesOf_of_getElem? hk) (by simp [hread])) hgood

/-- With no entry struck after the table's work its slots stand to the boundary's end. -/
theorem planRead_of_no_upset {c : Settings} {kind : BoundaryKind} {upsets : BoundaryUpsets}
    {g : CycleEdge} {s : State} (happly : upsets.apply = []) (hsurvey : upsets.survey = [])
    (hplan : upsets.plan = []) :
    (surveyRead c kind upsets g s).table = (tableStage c upsets g s).table ∧
      (surveyRead c kind upsets g s).frames = (tableStage c upsets g s).frames ∧
      (planRead c kind upsets g s).table = (tableStage c upsets g s).table ∧
      (planRead c kind upsets g s).frames = (tableStage c upsets g s).frames := by
  have hgood := good_of_tableStage c upsets g s
  have hsurveyed : surveyRead c kind upsets g s = applyStage c kind upsets g s := by
    rw [surveyRead, readForSurvey, hsurvey, upsetEntries_nil, checkParity_of_all_good]
    simpa [applyRead_of_no_upset happly] using hgood
  have hplanned : planRead c kind upsets g s = superviseStage c kind upsets g s := by
    rw [planRead, readForRegulation, hplan, upsetEntries_nil, checkParity_of_all_good]
    simpa [hsurveyed, applyRead_of_no_upset happly] using hgood
  simp [hplanned, hsurveyed, applyRead_of_no_upset happly]

theorem takenState_of_no_upset {c : Settings} {kind : BoundaryKind} {upsets : BoundaryUpsets}
    {g : CycleEdge} {s : State} (happly : upsets.apply = []) (hsurvey : upsets.survey = [])
    (hplan : upsets.plan = []) (hstarted : upsets.started = []) :
    (takenState c kind upsets g s).table =
        { slots :=
            if kind = .ordinary then
              (tableStage c upsets (boundaryEdge c g s) (boundaryStart c g s)).table.slots
            else
              (tableStage c upsets (boundaryEdge c g s) (boundaryStart c g s)).table.slots.map
                fun o => o.map fun e => { e with offset := none }
          errors := (tableStage c upsets (boundaryEdge c g s) (boundaryStart c g s)).table.errors } ∧
      (takenState c kind upsets g s).frames.watches =
        (tableStage c upsets (boundaryEdge c g s) (boundaryStart c g s)).frames.watches := by
  obtain ⟨-, -, htable, hframes⟩ := planRead_of_no_upset (c := c) (kind := kind)
    (g := boundaryEdge c g s) (s := boundaryStart c g s) happly hsurvey hplan
  have hgood := good_of_tableStage c upsets (boundaryEdge c g s) (boundaryStart c g s)
  have hworked : (boundaryWorked c kind upsets g s).table =
        (tableStage c upsets (boundaryEdge c g s) (boundaryStart c g s)).table ∧
      (boundaryWorked c kind upsets g s).frames =
        (tableStage c upsets (boundaryEdge c g s) (boundaryStart c g s)).frames := by
    simp [boundaryWorked, htable, hframes]
  have hend : (takenState c kind upsets g s).table =
        (readAll (frameBoundary kind (boundaryWorked c kind upsets g s))).table ∧
      (takenState c kind upsets g s).frames.watches =
        (readAll (frameBoundary kind (boundaryWorked c kind upsets g s))).frames.watches := by
    simp [boundaryEnd_eq, takeBit, bindLanes, hstarted]
  rw [hend.1, hend.2]
  cases kind with
  | ordinary =>
    have hframed : ∀ e ∈ entriesOf
        (frameBoundary .ordinary (boundaryWorked c .ordinary upsets g s)).table.slots,
        e.parityGood = true := by
      simpa [frameBoundary, hworked.1] using hgood
    rw [readAll, checkParity_of_all_good hframed]
    simp [frameBoundary, hworked.1, hworked.2]
  | forced =>
    have hread : readAll ((boundaryWorked c .forced upsets g s).setFrames
        { (boundaryWorked c .forced upsets g s).frames with
          ownFrame := some (nextFrame (boundaryWorked c .forced upsets g s)) }) =
        (boundaryWorked c .forced upsets g s).setFrames
          { (boundaryWorked c .forced upsets g s).frames with
            ownFrame := some (nextFrame (boundaryWorked c .forced upsets g s)) } :=
      checkParity_of_all_good (by simpa [hworked.1] using hgood) _
    have hslots : (frameBoundary .forced (boundaryWorked c .forced upsets g s)).table.slots =
        (tableStage c upsets (boundaryEdge c g s) (boundaryStart c g s)).table.slots.map
          fun o => o.map fun e => { e with offset := none } := by
      simp only [frameBoundary, hread, State.setTable_fields, State.setFrames_fields, hworked.1]
      apply List.map_congr_left
      intro o ho
      cases o with
      | none => rfl
      | some e => simp [Entry.written, hgood e (mem_entriesOf.mpr ho)]
    have hframed : ∀ e ∈ entriesOf
        (frameBoundary .forced (boundaryWorked c .forced upsets g s)).table.slots,
        e.parityGood = true := by
      intro e' he'
      rw [hslots, mem_entriesOf, List.mem_map] at he'
      obtain ⟨o, ho, heq⟩ := he'
      obtain ⟨e, rfl, rfl⟩ := Option.map_eq_some_iff.mp heq
      exact hgood e (mem_entriesOf.mpr ho)
    have hframes : (frameBoundary .forced (boundaryWorked c .forced upsets g s)).frames.watches =
        (boundaryWorked c .forced upsets g s).frames.watches := by
      simp only [frameBoundary, hread, State.setTable_fields, State.setFrames_fields]
    have herrors : (frameBoundary .forced (boundaryWorked c .forced upsets g s)).table.errors =
        (boundaryWorked c .forced upsets g s).table.errors := by
      simp only [frameBoundary, hread, State.setTable_fields, State.setFrames_fields]
    rw [readAll, checkParity_of_all_good hframed, if_neg (by simp), ← hslots, hframes, hworked.2,
      ← hworked.1, ← herrors]
    generalize frameBoundary .forced (boundaryWorked c .forced upsets g s) = w
    exact ⟨rfl, rfl⟩

end Sys2Proof.Machine
end

section
/-! PROOFS. The device once a boundary is taken: the time, the keying, the front end and the correlator through its two
derivations of the condition (R153, R161), and what follows of the boundary's order of work. -/

namespace Sys2Proof.Machine
open Sys2Proof.Safety

section Taken
variable (c : Settings) (kind : BoundaryKind) (upsets : BoundaryUpsets) (g : CycleEdge) (s : State)

/-- The state a boundary's last derivation finds, its warn test made (R161). -/
def boundaryWarned : State :=
  takeWarn g.warnDue
    ((boundaryEnd c kind upsets g s).setEdge
      (some
        { g with
          boundary := none, dwellDue := g.dwellDue && s.correlator.waiting, offer := none,
          warnDue := none }))

theorem takenState_eq : takenState c kind upsets g s = derive (boundaryWarned c kind upsets g s) := rfl

/-- The state in which the boundary settles the condition, its dwell end taken. -/
def boundarySettled : State :=
  settledState c kind upsets (boundaryEdge c g s) (boundaryStart c g s)

/-- What the two derivations of a boundary find of each other: the second has the first's time, front end and
keying, with the new cycle's data bit. -/
theorem boundaryWarned_parts :
    (boundaryWarned c kind upsets g s).timer = (derive (boundarySettled c kind upsets g s)).timer ∧
      (boundaryWarned c kind upsets g s).front =
        (derive (boundarySettled c kind upsets g s)).front ∧
      (boundaryWarned c kind upsets g s).keying =
        { (derive (boundarySettled c kind upsets g s)).keying with
          dataBit := (boundaryFrame c kind upsets g s).getD s.timer.position false } ∧
      (boundaryWarned c kind upsets g s).supervisor.condition =
        boundaryCondition c kind upsets g s ∧
      (boundaryWarned c kind upsets g s).config = s.config ∧
      (boundaryWarned c kind upsets g s).edge.isSome = true := by
  have hfacts := boundaryEnd_facts c kind upsets g s
  simp only [boundaryWarned, takeWarn_fields, takeWarn_facts, State.setEdge_fields, hfacts]
  simp [boundaryEnd_eq, takeBit, bindLanes, readAll, boundaryWorked, superviseStage_eq,
    boundarySettled, presentedBit, boundaryFrame]

@[simp] theorem boundarySettled_fields :
    (boundarySettled c kind upsets g s).timer = s.timer ∧
      (boundarySettled c kind upsets g s).keying = s.keying ∧
      (boundarySettled c kind upsets g s).front = s.front ∧
      (boundarySettled c kind upsets g s).config = s.config ∧
      (boundarySettled c kind upsets g s).edge.isSome = true ∧
      (boundarySettled c kind upsets g s).supervisor.condition = s.supervisor.condition ∧
      conditionOf s.config.isSome (boundarySettled c kind upsets g s).supervisor =
        boundaryCondition c kind upsets g s := by
  simp [boundarySettled, boundaryCondition, boundaryFacts]

theorem takenState_condition_eq :
    (takenState c kind upsets g s).supervisor.condition =
      conditionOf s.config.isSome (boundaryWarned c kind upsets g s).supervisor := by
  obtain ⟨-, -, -, -, hconfig, -⟩ := boundaryWarned_parts c kind upsets g s
  rw [takenState_eq, derive_condition, hconfig]

/-- Of the timer a boundary can close the window alone, and of the keying change the bit and the keyed mark (R6, R10, R14). -/
theorem takenState_timer_keying :
    (takenState c kind upsets g s).timer =
        { s.timer with window := (takenState c kind upsets g s).timer.window } ∧
      (takenState c kind upsets g s).keying =
        { s.keying with
          dataBit := (boundaryFrame c kind upsets g s).getD s.timer.position false
          keyed := (takenState c kind upsets g s).keying.keyed } := by
  obtain ⟨htimer, -, hkeying, -, -, -⟩ := boundaryWarned_parts c kind upsets g s
  constructor
  · simp only [takenState_eq, derive, setCondition_timer_eq, htimer, boundarySettled_fields]
  · simp only [takenState_eq, derive, setCondition_keying, hkeying, boundarySettled_fields]

/-- The cycle that starts at a boundary begins keyed exactly where there is output (R14). -/
theorem takenState_keyed (hphase : s.timer.phase = 0)
    (hkeyed : s.keying.keyed = s.supervisor.condition.output) :
    (takenState c kind upsets g s).keying.keyed =
      (takenState c kind upsets g s).supervisor.condition.output := by
  obtain ⟨htimer, -, hkeying, hcondition, -, hedge⟩ := boundaryWarned_parts c kind upsets g s
  have hsettled := boundarySettled_fields c kind upsets g s
  have hfirst := derive_keyed_at_start (s := boundarySettled c kind upsets g s) (by simpa using hphase)
    (by simp) (by simpa using hkeyed)
  rw [takenState_eq]
  refine derive_keyed_at_start ?_ hedge ?_
  · rw [htimer]
    simpa using hphase
  · rw [hkeying, hcondition]
    simpa using hfirst

/-- Where no window is open a boundary leaves the timer, and the front end where both conditions sample or the
condition stands (R6, R28). -/
theorem takenState_front (hwindow : s.timer.window ≠ .opened) :
    (takenState c kind upsets g s).timer = s.timer ∧
      ((takenState c kind upsets g s).supervisor.condition = s.supervisor.condition ∨
          s.supervisor.condition.samples = true ∧
            (takenState c kind upsets g s).supervisor.condition.samples = true →
        (takenState c kind upsets g s).front = s.front) ∧
      (s.supervisor.condition ≠ .fault → (takenState c kind upsets g s).supervisor.condition = .fault →
        (takenState c kind upsets g s).front = { s.front with unbroken := false, whole := false }) := by
  obtain ⟨htimer, hfront, -, hcondition, hconfig, -⟩ := boundaryWarned_parts c kind upsets g s
  have hfirst := derive_timer_of_not_opened (s := boundarySettled c kind upsets g s) (by simpa using hwindow)
  have hclosed : (boundaryWarned c kind upsets g s).timer.window ≠ .opened := by
    rw [htimer, hfirst]
    simpa using hwindow
  have hsecond : (boundaryCondition c kind upsets g s) =
        (takenState c kind upsets g s).supervisor.condition ∨
      (boundaryCondition c kind upsets g s).samples = true ∧
        (takenState c kind upsets g s).supervisor.condition.samples = true := by
    rcases boundaryCondition_or c kind upsets g s with h | ⟨h, h'⟩
    · exact .inl h.symm
    · right
      rcases h with h | h <;> rcases h' with h' | h' <;> simp [h, h', Condition.samples]
  have hstands : (takenState c kind upsets g s).front =
      (derive (boundarySettled c kind upsets g s)).front := by
    rw [← hfront, takenState_eq]
    rcases hsecond with h | ⟨h, h'⟩
    · rw [derive_of_agrees]
      rw [hcondition, h, hconfig, takenState_condition_eq]
    · exact derive_front_of_samples (by rwa [hcondition]) (by rwa [hconfig, ← takenState_condition_eq])
        hclosed
  refine ⟨?_, fun h => ?_, fun hnot hfault => ?_⟩
  · rw [takenState_eq, derive_timer_of_not_opened hclosed, htimer, hfirst]
    simp
  · rw [hstands]
    have hboth : boundaryCondition c kind upsets g s = s.supervisor.condition ∨
        s.supervisor.condition.samples = true ∧
          (boundaryCondition c kind upsets g s).samples = true := by
      rcases h with h | ⟨h, h'⟩ <;> rcases hsecond with h₂ | ⟨h₂, h₂'⟩
      · exact .inl (h₂.trans h)
      · exact .inr ⟨h ▸ h₂', h₂⟩
      · exact .inr ⟨h, h₂ ▸ h'⟩
      · exact .inr ⟨h, h₂⟩
    rcases hboth with h | ⟨h, h'⟩
    · rw [derive_of_agrees] <;> simp [h]
    · rw [derive_front_of_samples] <;> simp [h, h', hwindow]
  · have hcond : boundaryCondition c kind upsets g s = .fault := by
      rcases hsecond with h | ⟨-, h⟩
      · exact h.trans hfault
      · simp [hfault, Condition.samples] at h
    rw [hstands, derive, setCondition_front]
    simp [hcond, hnot.symm, Condition.samples, hwindow]

/-- The blocks after the supervisor can only close lanes of the correlator (R71). -/
theorem boundaryWorked_correlator :
    ∃ lanes, (frameBoundary kind (boundaryWorked c kind upsets g s)).correlator =
      { (derive (boundarySettled c kind upsets g s)).correlator with lanes := lanes } := by
  obtain ⟨lanes, latched, hframe, -⟩ :=
    frameBoundary_facts kind (boundaryWorked c kind upsets g s)
  refine ⟨lanes, ?_⟩
  rw [hframe, Correlator.mk.injEq]
  simp [boundaryWorked, plannedStage_eq, planRead, readForRegulation, superviseStage_eq, boundarySettled]

/-- The correlator once a boundary is taken (R34, R46 to R52). -/
theorem takenState_correlator :
    (takenState c kind upsets g s).correlator =
      { selfAtBoundary c (boundaryStart c g s).correlator with
        darkSeen :=
          s.correlator.darkSeen ||
            decide (s.supervisor.condition ≠ .dark ∧
              (takenState c kind upsets g s).supervisor.condition = .dark)
        lanes := boundCodes (takenState c kind upsets g s).table.slots
        startCodes := codesOf (takenState c kind upsets g s).table.slots } := by
  obtain ⟨lanes, hcorrelator⟩ :=
    surveyStage_correlator c kind upsets (boundaryEdge c g s) (boundaryStart c g s)
  obtain ⟨lanes', hworked⟩ := boundaryWorked_correlator c kind upsets g s
  have hdark : (takenState c kind upsets g s).correlator.darkSeen =
      (s.correlator.darkSeen ||
        decide (s.supervisor.condition ≠ .dark ∧
          (takenState c kind upsets g s).supervisor.condition = .dark)) := by
    obtain ⟨-, -, -, hcondition, hconfig, -⟩ := boundaryWarned_parts c kind upsets g s
    have hwarned : (boundaryWarned c kind upsets g s).correlator.darkSeen =
        (derive (boundarySettled c kind upsets g s)).correlator.darkSeen := by
      simp [boundaryWarned, boundaryEnd_eq, takeBit, bindLanes, readAll, hworked]
    have hsettled : (boundarySettled c kind upsets g s).correlator.darkSeen =
        s.correlator.darkSeen := by
      simp [boundarySettled, hcorrelator]
    rw [takenState_eq, derive, setCondition_correlator, hwarned, derive, setCondition_correlator]
    simp only [hsettled, boundarySettled_fields, hcondition, hconfig, State.setEdge_fields,
      setCondition_condition, ← takenState_condition_eq]
    rcases boundaryCondition_or c kind upsets g s with h | ⟨h, h'⟩
    · rw [h]
      by_cases hd : boundaryCondition c kind upsets g s = .dark
      · simp [hd, eq_comm]
      · simp [hd]
    · rcases h with h | h <;> rcases h' with h' | h' <;> simp [h, h']
  rw [← hdark, Correlator.mk.injEq]
  simp [takenState, derive, setCondition_correlator, boundaryEnd_eq, takeBit, bindLanes, readAll, hworked,
    boundarySettled, hcorrelator]

end Taken

end Sys2Proof.Machine
end

section
/-! PROOFS. What a boundary makes of the table (R57, R60, R70 to R72, R102), and the statement about the boundary as a
whole. -/

namespace Sys2Proof.Machine
open Sys2Proof.Safety

/-! ### The table's reads at a boundary -/

/-- The entries that fail at a boundary's first read, slot by slot. -/
def failedAt (struck : List Nat) (slots : List (Option Entry)) : List (Option Entry) :=
  slots.zipIdx.map fun (o, k) => o.filter fun e => !e.parityGood || decide (k ∈ struck)

/-- The entries that stand through a boundary's first read, slot by slot. -/
def keptAt (struck : List Nat) (slots : List (Option Entry)) : List (Option Entry) :=
  slots.zipIdx.map fun (o, k) => o.filter fun e => e.parityGood && decide (k ∉ struck)

theorem readStage_slots (upsets : BoundaryUpsets) (s : State) :
    (readStage upsets s).table.slots = keptAt upsets.work s.table.slots := by
  rw [readStage, readAll, checkParity_slots, upsetEntries_slots, mapSlots_mapSlots]
  apply List.map_congr_left
  rintro ⟨o, k⟩ -
  cases o with
  | none => rfl
  | some e =>
    by_cases hk : k ∈ upsets.work <;> cases hgood : e.parityGood <;>
      simp [passRead, failsRead, strike, hk, hgood, Option.filter]

theorem entriesOf_failedAt (struck : List Nat) (slots : List (Option Entry)) :
    entriesOf (failedAt struck slots) =
      (List.range slots.length).filterMap fun k =>
        (slots.getD k none).filter fun e => !e.parityGood || decide (k ∈ struck) := by
  rw [entriesOf, failedAt, List.filterMap_map, zipIdx_eq_map_range, List.filterMap_map]
  rfl

/-- The slots that a read of all entries finds failing are those of the failed entries. -/
theorem any_failsRead_struck (struck : List Nat) (slots : List (Option Entry)) (k : Nat) :
    ((mapSlots (fun k e => some (strike struck k e)) slots).getD k none).any
        (failsRead (fun _ _ => true) k) =
      ((slots.getD k none).filter fun e => !e.parityGood || decide (k ∈ struck)).isSome := by
  rw [getD_mapSlots]
  cases slots.getD k none with
  | none => rfl
  | some e =>
    by_cases hk : k ∈ struck <;> cases hgood : e.parityGood <;>
      simp [failsRead, strike, hk, hgood, Option.filter]

theorem readStage_counts (upsets : BoundaryUpsets) (s : State) :
    (readStage upsets s).table.errors =
        errorsAfter s.table.errors (entriesOf (failedAt upsets.work s.table.slots)).length ∧
      (readStage upsets s).frames.watches =
        dropWatches ((entriesOf (failedAt upsets.work s.table.slots)).filterMap Entry.lane)
          s.frames.watches := by
  have hslots : failingSlots (fun _ _ => true) (upsetEntries upsets.work s).table.slots =
      (List.range s.table.slots.length).filter fun k =>
        ((s.table.slots.getD k none).filter fun e =>
          !e.parityGood || decide (k ∈ upsets.work)).isSome := by
    rw [failingSlots, upsetEntries_slots, length_mapSlots]
    exact List.filter_congr fun k _ => any_failsRead_struck upsets.work s.table.slots k
  constructor
  · rw [readStage, readAll, checkParity_errors, hslots, entriesOf_failedAt,
      List.length_filterMap_eq_countP, ← List.countP_eq_length_filter]
    simp
  · rw [readStage, readAll, checkParity_watches, hslots, entriesOf_failedAt, lanesOf,
      List.filterMap_filter, List.filterMap_filterMap, upsetEntries_slots]
    simp only [upsetEntries_fields]
    congr 1
    apply List.filterMap_congr
    intro k _
    rw [getD_mapSlots]
    cases s.table.slots.getD k none with
    | none => rfl
    | some e =>
      by_cases hfails : (!e.parityGood || decide (k ∈ upsets.work)) = true
      · simp [Option.filter, hfails]
      · simp [Option.filter, hfails]

theorem errorsAfter_length (errors : Nat) (es : List Entry) :
    errorsAfter errors es.length = if es = [] then errors else min 255 (errors + es.length) := by
  cases es <;> simp [errorsAfter]

/-- The table once its boundary work is done (R57, R60 to R67, R105). -/
theorem tableStage_parts (c : Settings) (upsets : BoundaryUpsets) (g : CycleEdge) (s : State)
    {aged updated : List (Option Entry)} {worked : List (Option Entry) × Option Nat}
    (haged : aged = (keptAt upsets.work s.table.slots).map fun o => o.map (Entry.ageRecord g.accepted))
    (hupdated : updated = aged.map fun o => o.bind (Entry.atBoundary c))
    (hworked : worked = arbitrate c
      (match g.offer with
       | some (code, f) => admitOffer c.ownCode code f updated
       | none => updated)) :
    (tableStage c upsets g s).table.slots = worked.1 ∧
      (tableStage c upsets g s).table.errors =
        errorsAfter s.table.errors (entriesOf (failedAt upsets.work s.table.slots)).length ∧
      (tableStage c upsets g s).frames.watches =
        dropWatches
          ((entriesOf (failedAt upsets.work s.table.slots)).filterMap Entry.lane ++
            lostLanes c aged ++ worked.2.toList) s.frames.watches := by
  obtain ⟨herrors, hwatches⟩ := readStage_counts upsets s
  have hage : mapEntries (fun e => some (e.ageRecord g.accepted)) (readStage upsets s).table.slots =
      aged := by
    rw [haged, readStage_slots, mapEntries]
    apply List.map_congr_left
    intro o _
    cases o <;> rfl
  have hwork : tableWork c g.offer aged = (worked.1, lostLanes c aged ++ worked.2.toList) := by
    rw [hworked, hupdated]
    rfl
  refine ⟨by rw [tableStage_slots, hage, hwork], by simp [tableStage, tableBoundary, herrors], ?_⟩
  simp only [tableStage, tableBoundary, State.setAgreement_fields, State.setFrames_fields,
    State.setCorrelator_fields, hage, hwork]
  rw [hwatches, dropWatches_dropWatches, List.append_assoc]

theorem boundaryEdge_offer (c : Settings) (g : CycleEdge) (s : State) {figure : Nat}
    (hfigure : figure = (roundDiv s.correlator.dwellSum s.correlator.dwellCount).toNat) :
    (boundaryEdge c g s).offer =
      if g.dwellDue = true ∧ s.correlator.waiting = false then
        if 0 < s.correlator.dwellCount ∧ c.gDetect ≤ figure ∧
            s.correlator.dwellCode ∉ codesOf s.table.slots then
          some (s.correlator.dwellCode, figure)
        else none
      else g.offer := by
  have hoffer : dwellOffer c s =
      if 0 < s.correlator.dwellCount ∧ c.gDetect ≤ figure ∧
          s.correlator.dwellCode ∉ codesOf s.table.slots then
        some (s.correlator.dwellCode, figure)
      else none := by
    unfold dwellOffer dwellFigure
    by_cases hcount : s.correlator.dwellCount = 0
    · simp [hcount]
    · have hpos : 0 < s.correlator.dwellCount := by omega
      simp [hcount, hpos, ← hfigure]
  simp [boundaryEdge, dwellTaken, hoffer]

/-! ### The blocks' shares -/

theorem takeSolitary_relock (acquiring : Bool) (n : Nat) (slots : List (Option Entry)) (a : Agreement) :
    (takeSolitary acquiring n (leaveSolitary slots a)).relock = a.relock := by
  unfold takeSolitary leaveSolitary
  split <;> split <;> rfl

theorem originate_origination (v : Survey) : v.originate.origination = none := by
  unfold Survey.originate
  split <;> simp_all

theorem boundarySurvey_origination (c : Settings) (kind : BoundaryKind) (upsets : BoundaryUpsets)
    (g : CycleEdge) (s : State) : (boundarySurvey c kind upsets g s).origination = none := by
  rw [boundarySurvey, surveyStage_survey]
  exact originate_origination _

/-- What the survey adjustment leaves of the engine (R131). -/
@[simp] theorem adjustForSurvey_kept (c : Settings) (request : Option SurveyRequest) (r : Regulation) :
    (adjustForSurvey c request r).staged = r.staged ∧
      (adjustForSurvey c request r).beganRegulating = r.beganRegulating ∧
      (adjustForSurvey c request r).spacing = r.spacing ∧
      (adjustForSurvey c request r).sampleSum = r.sampleSum ∧
      (adjustForSurvey c request r).sampleCount = r.sampleCount ∧
      (adjustForSurvey c request r).frameMean = r.frameMean ∧
      (adjustForSurvey c request r).noMeasure = r.noMeasure := by
  unfold adjustForSurvey
  split <;> simp

/-- What the plan stage leaves of the engine (R116). -/
@[simp] theorem planStage_kept (c : Settings) (regulating : Bool) (gSelf : Nat)
    (gSelfValid voltageLimit : Bool) (applied : Int) (neighbours : List (Nat × Int)) (r : Regulation) :
    (planStage c regulating gSelf gSelfValid voltageLimit applied neighbours r).setCurrent =
        r.setCurrent ∧
      (planStage c regulating gSelf gSelfValid voltageLimit applied neighbours r).resume = r.resume ∧
      (planStage c regulating gSelf gSelfValid voltageLimit applied neighbours r).settle = r.settle ∧
      (planStage c regulating gSelf gSelfValid voltageLimit applied neighbours r).sampleSum =
        r.sampleSum ∧
      (planStage c regulating gSelf gSelfValid voltageLimit applied neighbours r).sampleCount =
        r.sampleCount ∧
      (planStage c regulating gSelf gSelfValid voltageLimit applied neighbours r).frameMean =
        r.frameMean := by
  unfold planStage
  dsimp only
  split <;> simp

theorem boundaryRegulation_sums (c : Settings) (kind : BoundaryKind) (upsets : BoundaryUpsets)
    (g : CycleEdge) (s : State) :
    (boundaryRegulation c kind upsets g s).sampleSum = 0 ∧
      (boundaryRegulation c kind upsets g s).sampleCount = 0 := by
  simp [boundaryRegulation, plannedRegulation, surveyStage_regulation, closeMean]

/-- A forced boundary leaves no pending offset (R88). -/
theorem offset_of_forced {c : Settings} {upsets : BoundaryUpsets} {g : CycleEdge} {s : State} {e : Entry}
    (he : e ∈ entriesOf (takenState c .forced upsets g s).table.slots) : e.offset = none := by
  have hend : (takenState c .forced upsets g s).table.slots =
      (readAll (upsetEntries upsets.started
        (frameBoundary .forced (boundaryWorked c .forced upsets g s)))).table.slots := by
    simp [boundaryEnd_eq, takeBit, bindLanes]
  rw [hend, readAll, checkParity_slots, upsetEntries_slots, mapSlots_mapSlots] at he
  obtain ⟨k, e', hk, hpass⟩ := mem_entriesOf_mapSlots.mp he
  rw [Option.bind_some, passRead_strike_eq_some] at hpass
  obtain ⟨rfl, -⟩ := hpass
  have hmem := mem_entriesOf_of_getElem? hk
  simp only [frameBoundary, State.setTable_fields, mapEntries_eq_mapSlots] at hmem
  obtain ⟨j, e₀, -, heq⟩ := mem_entriesOf_mapSlots.mp hmem
  obtain rfl := Option.some.inj heq
  simp [Entry.written]

/-! ### The statement's shapes -/

theorem settledCondition_taken (c : Settings) (kind : BoundaryKind) (upsets : BoundaryUpsets)
    (g : CycleEdge) (s : State) :
    settledCondition s (drive (takenState c kind upsets g s)) = boundaryCondition c kind upsets g s := by
  rw [boundaryCondition_eq, settledCondition]
  simp

end Sys2Proof.Machine

namespace Sys2Proof.Proofs
open Sys2Proof.Machine Sys2Proof.Safety

/-- Settles O30: the boundary taken, part by part, and its table with no entry struck after the table's work. -/
theorem boundaryBuildsFrame : Obligations.BoundaryBuildsFrame := by
  intro c g kind upsets s hheld hc hedge hb
  obtain ⟨htimer, hkeying⟩ := takenState_timer_keying c kind upsets g s
  have hcorrelator := takenState_correlator c kind upsets g s
  have hsettled := settledCondition_taken c kind upsets g s
  refine ⟨_, boundaryFrame c kind upsets g s, exec_frameBoundary_taken upsets hheld hc hedge hb, ?_⟩
  simp only [hsettled]
  simp only [drive_fields]
  obtain ⟨-, -, -, -, -, -, -, -, hframe, hcount, hagreement, hregulation, hsurvey, -, -, -, hedge', -⟩ :=
    takenState_fields c kind upsets g s
  obtain ⟨-, -, -, -, hmains, hbrownout, hlow, hhigh, -, -, -, -, -, -, hstage, hcapdrop, -⟩ :=
    takenState_facts c kind upsets g s
  obtain ⟨hsum, hsamples⟩ := boundaryRegulation_sums c kind upsets g s
  refine ⟨?_, ?_, by simp, by simp, by simp, by simp, by simp, by simp, by simp, by simp, by simp,
    htimer, hcount, hframe, by simp, fun hwarn => ?_, ?_, ?_, by simp, ?_, ⟨_, rfl, hedge', ?_⟩, ?_, ?_,
    ?_, ?_, ?_, ?_, ?_, ?_, ?_⟩
  · generalize (takenState c kind upsets g s).supervisor = u at *
    rw [← hmains, ← hbrownout, ← hlow, ← hhigh, ← hstage, ← hcapdrop]
  · rw [hagreement]
    exact takeSolitary_relock _ _ _ _
  · exact (takenState_condition_of_no_warn c kind upsets g s hwarn).1.symm
  · rw [boundaryFrame_eq, hkeying]
    simp
  · rw [hkeying]
  · rw [hsurvey]
    exact boundarySurvey_origination c kind upsets g s
  · rw [hcorrelator]
    cases htaken : dwellTaken g s with
    | true =>
      have htaken' : (g.dwellDue && !s.correlator.waiting) = true := htaken
      simp only [boundaryStart, htaken, htaken', if_true, selfAtBoundary_kept, moveDwell]
    | false =>
      have htaken' : (g.dwellDue && !s.correlator.waiting) = false := htaken
      simp only [boundaryStart, htaken, htaken', Bool.false_eq_true, if_false, selfAtBoundary_kept]
  · rw [hcorrelator]
    rfl
  · intro hform lane w hlow hhigh
    rw [hcorrelator]
    have hslots : SlotsOk c.ownCode (takenState c kind upsets g s).table.slots := by
      simpa [TableForm] using tableForm_boundaryEnd (c := c) hform
    exact boundCodes_getElem? hslots hlow hhigh
  · rw [hkeying]
  · exact takenState_keyed c kind upsets g s
  · exact takenState_front c kind upsets g s
  · rw [hregulation, hsum]
  · rw [hregulation, hsamples]
  · rintro rfl e he
    exact offset_of_forced he
  · intro figure offer failed kept aged updated worked happly hsurvey hplan hstarted hfailed hkept
      hfigure hoffer haged hupdated hworked
    subst hfailed hkept hoffer
    obtain ⟨htable, hwatches⟩ := takenState_of_no_upset (c := c) (kind := kind) (g := g) (s := s)
      happly hsurvey hplan hstarted
    have hstart : (boundaryStart c g s).table = s.table := by simp
    obtain ⟨hslots, herrors, hlanes⟩ := tableStage_parts c upsets (boundaryEdge c g s)
      (boundaryStart c g s) (aged := aged) (updated := updated) (worked := worked)
      (by rw [hstart]; exact haged) hupdated (by rw [boundaryEdge_offer c g s hfigure]; exact hworked)
    rw [htable, hwatches, hslots, herrors, hlanes, errorsAfter_length]
    simp only [boundaryStart_fields]
    exact ⟨rfl, rfl⟩

end Sys2Proof.Proofs
end

section
/-! PROOFS. Regulation, the survey coordinator, the supervisor and the self lane at a boundary (R47 to R49, R111 to R116,
R131, R135, R142, R157, R158, R160). -/

namespace Sys2Proof.Machine
open Sys2Proof.Safety

/-! ### What regulation and the coordinator read of the table -/

/-- The step a TRACKED entry with a frame accepted at this boundary announces (R68, R113). -/
def announcedStep (e : Entry) : Option Int :=
  e.record.bind fun r => if e.state = .tracked ∧ r.age = 0 then some r.step else none

/-- The influence and step the plan counts of an entry (R119). -/
def countedNeighbour (e : Entry) : Option (Nat × Int) :=
  e.record.bind fun r =>
    if e.state = .tracked ∧ r.age = 0 ∧ e.gValid = true then some (e.g, r.step) else none

/-- The frame of age 0 that the coordinator takes from an entry (R135). -/
def freshFrame (e : Entry) : Option SurveyFrame :=
  e.record.bind fun r => if r.age = 0 then some { sender := e.code, record := r } else none

theorem presentedEntry_of_record {e : Entry} {r : FrameRecord} (hrecord : e.record = some r)
    (hstate : e.state = .tracked) (hage : r.age = 0) : presentedEntry e = true := by
  simp [presentedEntry, Entry.isTracked, Entry.fresh, hstate, hrecord, hage]

theorem presentedEntry_of_announced {e : Entry} (h : (announcedStep e).isSome = true) :
    presentedEntry e = true := by
  unfold announcedStep at h
  cases hrecord : e.record with
  | none => simp [hrecord] at h
  | some r =>
    rw [hrecord, Option.bind_some] at h
    split_ifs at h with hr
    · exact presentedEntry_of_record hrecord hr.1 hr.2
    · simp at h

theorem presentedEntry_of_counted {e : Entry} (h : (countedNeighbour e).isSome = true) :
    presentedEntry e = true := by
  unfold countedNeighbour at h
  cases hrecord : e.record with
  | none => simp [hrecord] at h
  | some r =>
    rw [hrecord, Option.bind_some] at h
    split_ifs at h with hr
    · exact presentedEntry_of_record hrecord hr.1 hr.2.1
    · simp at h

theorem fresh_of_freshFrame {e : Entry} (h : (freshFrame e).isSome = true) : e.fresh = true := by
  unfold freshFrame at h
  cases hrecord : e.record with
  | none => simp [hrecord] at h
  | some r =>
    rw [hrecord, Option.bind_some] at h
    split_ifs at h with hr
    · simp [Entry.fresh, hrecord, hr]
    · simp at h

theorem neighbourSteps_eq (slots : List (Option Entry)) :
    neighbourSteps slots = ((entriesOf slots).filterMap announcedStep).any fun x => decide (x ≠ 0) := by
  unfold neighbourSteps presented
  rw [List.any_filterMap, List.any_filterMap]
  congr 1
  funext e
  unfold announcedStep
  cases hrecord : e.record with
  | none => rfl
  | some r =>
    by_cases htracked : e.state = .tracked <;> by_cases hage : r.age = 0 <;>
      simp [Entry.isTracked, htracked, hage]

theorem planNeighbours_eq (slots : List (Option Entry)) :
    planNeighbours slots = (entriesOf slots).filterMap countedNeighbour := by
  unfold planNeighbours presented
  rw [List.filterMap_filterMap]
  apply List.filterMap_congr
  intro e _
  unfold countedNeighbour
  cases hrecord : e.record with
  | none => rfl
  | some r =>
    by_cases htracked : e.state = .tracked <;> by_cases hage : r.age = 0 <;>
      by_cases hvalid : e.gValid = true <;> simp [Entry.isTracked, htracked, hage, hvalid]

theorem surveyFrames_eq (slots : List (Option Entry)) :
    surveyFrames slots = (entriesOf slots).filterMap freshFrame := by
  unfold surveyFrames
  apply List.filterMap_congr
  intro e _
  unfold freshFrame
  cases e.record <;> rfl

/-- What regulation's plan reads stands to the boundary's end (R71). -/
theorem filterMap_of_planRead {α : Type} {φ : Entry → Option α} {c : Settings} {kind : BoundaryKind}
    {upsets : BoundaryUpsets} {g : CycleEdge} {s : State} (hstarted : upsets.started = [])
    (hφ : ∀ e, φ { e with offset := none } = φ e)
    (hread : ∀ e, (φ e).isSome = true → presentedEntry e = true) :
    (entriesOf (takenState c kind upsets g s).table.slots).filterMap φ =
      (entriesOf (planRead c kind upsets (boundaryEdge c g s)
        (boundaryStart c g s)).table.slots).filterMap φ :=
  filterMap_takenState hstarted hφ fun e he hsome =>
    good_of_planRead c kind upsets _ _ e he (hread e hsome)

/-- What the coordinator reads stands to the boundary's end, no entry struck after (R71). -/
theorem filterMap_of_surveyRead {α : Type} {φ : Entry → Option α} {c : Settings}
    {kind : BoundaryKind} {upsets : BoundaryUpsets} {g : CycleEdge} {s : State}
    (hplan : upsets.plan = []) (hstarted : upsets.started = [])
    (hφ : ∀ e, φ { e with offset := none } = φ e)
    (hread : ∀ e, (φ e).isSome = true → e.fresh = true) :
    (entriesOf (takenState c kind upsets g s).table.slots).filterMap φ =
      (entriesOf (surveyRead c kind upsets (boundaryEdge c g s)
        (boundaryStart c g s)).table.slots).filterMap φ := by
  have hgood : GoodWhere (fun e => (φ e).isSome)
      (surveyRead c kind upsets (boundaryEdge c g s) (boundaryStart c g s)).table.slots :=
    fun e he hsome => good_of_surveyRead c kind upsets _ _ e he (hread e hsome)
  rw [filterMap_takenState hstarted hφ, filterMap_planRead hplan hgood]
  rw [planRead, readForRegulation, hplan, upsetEntries_nil]
  exact GoodWhere.checkParity (by simpa using hgood) _

/-- What regulation's apply stage reads stands to the boundary's end, no entry struck after (R71). -/
theorem filterMap_of_applyRead {α : Type} {φ : Entry → Option α} {c : Settings}
    {kind : BoundaryKind} {upsets : BoundaryUpsets} {g : CycleEdge} {s : State}
    (hsurvey : upsets.survey = []) (hplan : upsets.plan = []) (hstarted : upsets.started = [])
    (hφ : ∀ e, φ { e with offset := none } = φ e)
    (hread : ∀ e, (φ e).isSome = true → presentedEntry e = true) :
    (entriesOf (takenState c kind upsets g s).table.slots).filterMap φ =
      (entriesOf (applyRead c upsets (boundaryEdge c g s)
        (boundaryStart c g s)).table.slots).filterMap φ := by
  have hfresh : ∀ e, (φ e).isSome = true → e.fresh = true := fun e he => by
    have := hread e he
    simp only [presentedEntry, Bool.and_eq_true] at this
    exact this.2
  rw [filterMap_of_surveyRead hplan hstarted hφ hfresh, filterMap_surveyRead hsurvey]
  exact fun e he hsome => good_of_applyRead c upsets _ _ e he (hread e hsome)

/-! ### Regulation at a boundary -/

/-- What the plan stage makes of the engine, in REGULATING and elsewhere (R116, R118, R127 to R129). -/
theorem planStage_spec (c : Settings) (regulating : Bool) (gSelf : Nat)
    (gSelfValid voltageLimit : Bool) (applied : Int) (neighbours : List (Nat × Int)) (r : Regulation)
    {t : Regulation}
    (ht : t = planStage c regulating gSelf gSelfValid voltageLimit applied neighbours r) :
    t.beganRegulating = regulating ∧
      (regulating = false →
        t.staged = 0 ∧ t.floor = false ∧ t.ilimit = false ∧ t.vlimit = false ∧ t.noself = false) ∧
      t.spacing = (if t.staged = 0 then r.spacing.map (countUp 255) else some 0) ∧
      t.noMeasure =
        (if regulating = true ∧ r.frameMean = none ∧ r.beganRegulating = true then
          countUp 65535 r.noMeasure
         else r.noMeasure) ∧
      (regulating = true →
        ∃ p : Plan,
          p = planStep c
            { mean := r.frameMean, gSelf := gSelf, gSelfValid := gSelfValid,
              setCurrent := r.setCurrent.getD 0, applied := applied, neighbours := neighbours,
              voltageLimit := voltageLimit, spacing := r.spacing.map (countUp 255) } ∧
          t.staged = p.step ∧ t.floor = p.floor ∧ t.ilimit = p.ilimit ∧ t.vlimit = p.vlimit ∧
          t.noself = p.noself) := by
  subst ht
  cases regulating with
  | false => simp [planStage]
  | true =>
    refine ⟨rfl, by simp, rfl, ?_, fun _ => ⟨_, rfl, rfl, rfl, rfl, rfl, rfl⟩⟩
    cases hmean : r.frameMean <;> simp [planStage, hmean]

/-- The request the coordinator makes of regulation at a boundary (R142). -/
theorem surveyRequest_eq (before after : Survey) :
    surveyRequest before after =
      if after.runs .depolarize = true then
        if before.runs .depolarize = true ∧ before.generation = after.generation then none
        else some .forceToDepth
      else if before.runs .depolarize = true then some .restore
      else none := by
  unfold surveyRequest
  split_ifs <;> simp_all

/-- Regulation before its plan, as a boundary leaves it: the step applied, the mean closed, the survey adjustment
made (R111 to R115, R131). -/
def boundaryApplied (c : Settings) (kind : BoundaryKind) (upsets : BoundaryUpsets) (g : CycleEdge)
    (s : State) : Regulation :=
  adjustForSurvey c (surveyRequest s.survey (boundarySurvey c kind upsets g s))
    (closeMean (applyStep kind
      (neighbourSteps (applyRead c upsets (boundaryEdge c g s) (boundaryStart c g s)).table.slots)
      s.regulation))

theorem boundaryRegulation_eq (c : Settings) (kind : BoundaryKind) (upsets : BoundaryUpsets)
    (g : CycleEdge) (s : State) :
    boundaryRegulation c kind upsets g s =
      planStage c (boundaryCondition c kind upsets g s = .regulating)
        (selfAtBoundary c (boundaryStart c g s).correlator).gSelf
        (selfAtBoundary c (boundaryStart c g s).correlator).gSelfValid s.keying.voltageLimit
        (appliedStep kind s.regulation)
        (planNeighbours
          (planRead c kind upsets (boundaryEdge c g s) (boundaryStart c g s)).table.slots)
        (boundaryApplied c kind upsets g s) := by
  have happlied : boundaryApplied c kind upsets g s =
      (surveyStage c kind upsets (boundaryEdge c g s) (boundaryStart c g s)).regulation := by
    rw [surveyStage_regulation]
    simp [boundaryApplied, boundarySurvey]
  rw [happlied]
  simp [boundaryRegulation, plannedRegulation, boundaryCondition, boundaryFacts] <;> rfl

@[simp] theorem boundaryApplied_kept (c : Settings) (kind : BoundaryKind) (upsets : BoundaryUpsets)
    (g : CycleEdge) (s : State) :
    (boundaryApplied c kind upsets g s).beganRegulating = s.regulation.beganRegulating ∧
      (boundaryApplied c kind upsets g s).spacing = s.regulation.spacing ∧
      (boundaryApplied c kind upsets g s).noMeasure = s.regulation.noMeasure ∧
      (boundaryApplied c kind upsets g s).frameMean =
        (if s.regulation.sampleCount = 0 then none
         else some (roundDiv s.regulation.sampleSum s.regulation.sampleCount)) := by
  simp [boundaryApplied, closeMean, applyStep]

/-- The apply stage and the survey adjustment on the set current (R112, R113, R131). -/
theorem boundaryApplied_current {c : Settings} {kind : BoundaryKind} {upsets : BoundaryUpsets}
    {g : CycleEdge} {s : State} {i : Int} (hi : s.regulation.setCurrent = some i) {applied : Int}
    (happlied : applied = if kind = .ordinary then i + s.regulation.staged else i) :
    (surveyRequest s.survey (boundarySurvey c kind upsets g s) = none →
      (boundaryApplied c kind upsets g s).setCurrent = some applied ∧
        (boundaryApplied c kind upsets g s).resume = s.regulation.resume ∧
        (boundaryApplied c kind upsets g s).settle =
          (decide (kind = .ordinary ∧ s.regulation.staged ≠ 0) ||
            neighbourSteps
              (applyRead c upsets (boundaryEdge c g s) (boundaryStart c g s)).table.slots)) ∧
      (surveyRequest s.survey (boundarySurvey c kind upsets g s) = some .forceToDepth →
        (boundaryApplied c kind upsets g s).setCurrent = some (c.depth : Int) ∧
          (boundaryApplied c kind upsets g s).settle = true ∧
          (boundaryApplied c kind upsets g s).resume = s.regulation.resume.or (some applied)) ∧
      (surveyRequest s.survey (boundarySurvey c kind upsets g s) = some .restore →
        (boundaryApplied c kind upsets g s).setCurrent = s.regulation.resume.or (some applied) ∧
          (boundaryApplied c kind upsets g s).settle = true ∧
          (boundaryApplied c kind upsets g s).resume = none) := by
  subst happlied
  unfold boundaryApplied
  refine ⟨fun h => ?_, fun h => ?_, fun h => ?_⟩ <;> rw [h] <;> cases kind <;>
    simp [adjustForSurvey, closeMean, applyStep, appliedStep, hi]

/-! ### The supervisor at a boundary -/

/-- The solitary count a boundary leaves: an entry to ACQUIRING returns it to 0 (R153, R157). -/
theorem takenState_solitary (c : Settings) (kind : BoundaryKind) (upsets : BoundaryUpsets)
    (g : CycleEdge) (s : State) :
    (takenState c kind upsets g s).supervisor.solitary =
      if boundaryCondition c kind upsets g s ≠ s.supervisor.condition ∧
          boundaryCondition c kind upsets g s = .acquiring then 0
      else (boundaryFacts c kind upsets g s).solitary := by
  have hworked : (boundaryWorked c kind upsets g s).supervisor.solitary =
      if boundaryCondition c kind upsets g s ≠ s.supervisor.condition ∧
          boundaryCondition c kind upsets g s = .acquiring then 0
      else (boundaryFacts c kind upsets g s).solitary := by
    simp [boundaryWorked, boundaryCondition, boundaryFacts] <;> rfl
  obtain ⟨-, -, -, hcondition, hconfig, -⟩ := boundaryWarned_parts c kind upsets g s
  have hend := (boundaryEnd_facts c kind upsets g s).2.2.2.2
  have hwarned : (boundaryWarned c kind upsets g s).supervisor.solitary =
      (boundaryWorked c kind upsets g s).supervisor.solitary := by
    simp [boundaryWarned, hend]
  rw [takenState_eq, derive_supervisor]
  dsimp only
  rw [hcondition, hconfig, ← takenState_condition_eq, hwarned, ← hworked, if_neg]
  rintro ⟨hne, hacquiring⟩
  rcases boundaryCondition_or c kind upsets g s with h | ⟨h, -⟩
  · exact hne h
  · simp [hacquiring] at h

end Sys2Proof.Machine

namespace Sys2Proof.Proofs
open Sys2Proof.Machine Sys2Proof.Safety

/-- Settles O31: the apply stage, the survey adjustment, and the settle mark. -/
theorem boundaryAppliesStep : Obligations.BoundaryAppliesStep := by
  intro c g kind i upsets s hheld hc hedge hb hi
  refine ⟨_, _, exec_frameBoundary_taken upsets hheld hc hedge hb, rfl, ?_⟩
  obtain ⟨hnone, hforce, hrestore⟩ := boundaryApplied_current (c := c) (kind := kind)
    (upsets := upsets) (g := g) hi rfl
  have hregulation := boundaryRegulation_eq c kind upsets g s
  have hrequest := surveyRequest_eq s.survey (boundarySurvey c kind upsets g s)
  simp only [drive_fields, takenState_fields, hregulation, planStage_kept]
  refine ⟨fun h => ?_, fun hruns h => ?_, fun hbefore hafter => ?_, fun hkind hstaged => ?_⟩
  · have hquiet : surveyRequest s.survey (boundarySurvey c kind upsets g s) = none := by
      rw [hrequest]
      rcases h with ⟨hbefore, hafter⟩ | ⟨hbefore, hafter, hgeneration⟩
      · simp [hbefore, hafter]
      · simp [hbefore, hafter, hgeneration]
    obtain ⟨hcurrent, hresume, hsettle⟩ := hnone hquiet
    refine ⟨hcurrent, hresume, fun hsurvey hplan hstarted => ?_⟩
    rw [hsettle, neighbourSteps_eq,
      ← filterMap_of_applyRead (kind := kind) (φ := announcedStep) hsurvey hplan hstarted
        (fun _ => rfl) fun _ => presentedEntry_of_announced]
    simp only [Bool.or_eq_true, decide_eq_true_eq, List.any_eq_true, List.mem_filterMap,
      announcedStep, Option.bind_eq_some_iff, takenState_fields]
    refine or_congr_right ⟨?_, ?_⟩
    · rintro ⟨x, ⟨e, he, r, hr, hx⟩, hne⟩
      split_ifs at hx with htracked
      obtain rfl := Option.some.inj hx
      exact ⟨e, he, r, htracked.1, hr, htracked.2, hne⟩
    · rintro ⟨e, he, r, hstate, hr, hage, hne⟩
      exact ⟨r.step, ⟨e, he, r, hr, by simp [hstate, hage]⟩, hne⟩
  · refine hforce ?_
    rw [hrequest, if_pos hruns, if_neg]
    rintro ⟨hbefore, hgeneration⟩
    rcases h with h | h
    · simp [h] at hbefore
    · exact h hgeneration.symm
  · refine hrestore ?_
    rw [hrequest, if_neg (by simp [hafter]), if_pos hbefore]
  · cases hmade : surveyRequest s.survey (boundarySurvey c kind upsets g s) with
    | none =>
      obtain ⟨-, -, hsettle⟩ := hnone hmade
      rw [hsettle]
      simp [hkind, hstaged]
    | some request =>
      cases request with
      | forceToDepth => exact (hforce hmade).2.1
      | restore => exact (hrestore hmade).2.1

/-- Settles O32: the mean closed, and the plan made in REGULATING alone. -/
theorem onlyRegulatingPlans : Obligations.OnlyRegulatingPlans := by
  intro c g kind upsets s hheld hc hedge hb
  obtain ⟨hbegan, hspacing, hnoMeasure, hmean⟩ := boundaryApplied_kept c kind upsets g s
  obtain ⟨-, -, -, -, -, -, -, -, -, -, hfloor, hilimit, hvlimit, hnoself, -⟩ :=
    takenState_facts c kind upsets g s
  have hcorrelator := takenState_correlator c kind upsets g s
  have hself : (takenState c kind upsets g s).correlator.gSelf =
        (selfAtBoundary c (boundaryStart c g s).correlator).gSelf ∧
      (takenState c kind upsets g s).correlator.gSelfValid =
        (selfAtBoundary c (boundaryStart c g s).correlator).gSelfValid := by
    rw [hcorrelator]
    exact ⟨rfl, rfl⟩
  have hkept : (boundaryRegulation c kind upsets g s).frameMean =
        (boundaryApplied c kind upsets g s).frameMean ∧
      (boundaryRegulation c kind upsets g s).setCurrent =
        (boundaryApplied c kind upsets g s).setCurrent := by
    rw [boundaryRegulation_eq]
    simp only [planStage_kept, and_self]
  obtain ⟨hregulating, hzero, hspaced, hcounted, hplan⟩ :=
    planStage_spec _ _ _ _ _ _ _ _ (boundaryRegulation_eq c kind upsets g s)
  refine ⟨drive (takenState c kind upsets g s), boundaryCondition c kind upsets g s,
    s.regulation.spacing.map fun n => min 255 (n + 1),
    exec_frameBoundary_taken upsets hheld hc hedge hb,
    (settledCondition_taken c kind upsets g s).symm, fun hwarn => ?_, ?_⟩
  · simpa using (takenState_condition_of_no_warn c kind upsets g s hwarn).1.symm
  · simp only [drive_fields, takenState_fields, hfloor, hilimit, hvlimit, hnoself]
    refine ⟨hkept.1.trans hmean, hregulating, fun hx => hzero (by simpa using hx), trivial, trivial,
      trivial, trivial, trivial, ?_, ?_, fun hx hstarted => ?_⟩
    · rw [hspaced, hspacing]
      rfl
    · rw [hcounted, hkept.1, hnoMeasure, hbegan]
      simp only [decide_eq_true_eq]
      rfl
    · obtain ⟨p, hp, hcauses⟩ := hplan (by simpa using hx)
      refine ⟨p, hp.trans ?_, hcauses⟩
      rw [hself.1, hself.2, hkept.1, hkept.2, planNeighbours_eq, hspacing,
        ← filterMap_of_planRead (φ := countedNeighbour) hstarted (fun _ => rfl) fun _ =>
          presentedEntry_of_counted]
      cases kind <;> simp [appliedStep] <;> rfl

end Sys2Proof.Proofs
end

section
/-! PROOFS. The supervisor's qualification, the self lane, the countdown and the pending requests at a boundary (R47 to R49,
R79, R139 to R141, R157, R158, R160). -/

namespace Sys2Proof.Machine
open Sys2Proof.Safety

/-! ### The table as the supervisor reads it -/

/-- With no entry struck after the table's work, the entries a boundary leaves are those its work left, but for a
forced boundary's pending offsets. -/
theorem takenState_entries {c : Settings} {kind : BoundaryKind} {upsets : BoundaryUpsets}
    {g : CycleEdge} {s : State} (happly : upsets.apply = []) (hsurvey : upsets.survey = [])
    (hplan : upsets.plan = []) (hstarted : upsets.started = []) :
    entriesOf (takenState c kind upsets g s).table.slots =
      (entriesOf (tableStage c upsets (boundaryEdge c g s) (boundaryStart c g s)).table.slots).map
        fun e => if kind = .ordinary then e else { e with offset := none } := by
  rw [(takenState_of_no_upset happly hsurvey hplan hstarted).1]
  cases kind with
  | ordinary => simp
  | forced =>
    simp only [reduceCtorEq, if_false, entriesOf, List.filterMap_map, List.map_filterMap]
    rfl

theorem takenState_codes {c : Settings} {kind : BoundaryKind} {upsets : BoundaryUpsets}
    {g : CycleEdge} {s : State} (happly : upsets.apply = []) (hsurvey : upsets.survey = [])
    (hplan : upsets.plan = []) (hstarted : upsets.started = []) :
    codesOf (takenState c kind upsets g s).table.slots =
        codesOf (tableStage c upsets (boundaryEdge c g s) (boundaryStart c g s)).table.slots ∧
      ∀ p : EntryState → Prop,
        (∃ e ∈ entriesOf (takenState c kind upsets g s).table.slots, p e.state) ↔
          ∃ e ∈ entriesOf
            (tableStage c upsets (boundaryEdge c g s) (boundaryStart c g s)).table.slots,
            p e.state := by
  rw [codesOf, takenState_entries happly hsurvey hplan hstarted]
  refine ⟨?_, fun p => ?_⟩
  · rw [List.map_map, codesOf]
    apply List.map_congr_left
    intro e _
    simp only [Function.comp_apply]
    split <;> rfl
  · simp only [List.mem_map]
    constructor
    · rintro ⟨e', ⟨e, he, rfl⟩, hp⟩
      refine ⟨e, he, ?_⟩
      split at hp <;> exact hp
    · rintro ⟨e, he, hp⟩
      refine ⟨_, ⟨e, he, rfl⟩, ?_⟩
      split <;> exact hp

theorem any_isTracked_iff {slots : List (Option Entry)} :
    (entriesOf slots).any Entry.isTracked = true ↔ ∃ e ∈ entriesOf slots, e.state = .tracked := by
  simp [List.any_eq_true, Entry.isTracked]

theorem leaveSolitary_eq (slots : List (Option Entry)) (a : Agreement) :
    leaveSolitary slots a =
      if a.lock = .solitary ∧ ∃ e ∈ entriesOf slots, e.state = .tracked then
        { a with lock := .locked, loss := 0 }
      else a := by
  unfold leaveSolitary
  simp only [Bool.and_eq_true, decide_eq_true_eq, any_isTracked_iff]

theorem takeSolitary_eq (acquiring : Bool) (n : Nat) (a : Agreement) :
    takeSolitary acquiring n a =
      if acquiring = true ∧ n = 16 then { a with lock := .solitary, acquisition := 0 } else a := by
  unfold takeSolitary
  simp only [Bool.and_eq_true, decide_eq_true_eq]

/-- The solitary count counts only boundaries whose table holds PARKED entries alone (R157). -/
theorem solitaryAfter_eq (slots : List (Option Entry)) (n : Nat) :
    solitaryAfter slots n =
      if ∃ e ∈ entriesOf slots, e.state ≠ .parked then 0 else min 16 (n + 1) := by
  unfold solitaryAfter countUp
  simp only [List.any_eq_true, decide_eq_true_eq]

/-! ### The self lane (R47 to R49) -/

/-- The self lane after a boundary, by its frame mean. -/
theorem selfAtBoundary_spec (c : Settings) (k : Correlator) :
    (k.selfCount = 0 →
      (selfAtBoundary c k).gSelf = k.gSelf ∧ (selfAtBoundary c k).gSelfValid = k.gSelfValid ∧
        (selfAtBoundary c k).reversed = k.reversed ∧ reversedCause c k = false) ∧
      ∀ mean, 0 < k.selfCount → mean = roundDiv k.selfSum k.selfCount →
        (0 < mean → c.gDetect ≤ mean →
          (selfAtBoundary c k).gSelfValid = true ∧
            ((selfAtBoundary c k).gSelf : Int) =
              if k.gSelfValid then max 0 (min 65535 (k.gSelf + roundDiv (mean - k.gSelf) 4))
              else mean) ∧
        (mean ≤ 0 ∨ mean < c.gDetect →
          (selfAtBoundary c k).gSelf = k.gSelf ∧ (selfAtBoundary c k).gSelfValid = k.gSelfValid) ∧
        (mean < 0 → c.gDetect ≤ -mean →
          (selfAtBoundary c k).reversed = min 2 (k.reversed + 1) ∧
            reversedCause c k = decide (1 ≤ k.reversed)) ∧
        (0 ≤ mean ∨ -mean < c.gDetect →
          (selfAtBoundary c k).reversed = 0 ∧ reversedCause c k = false) := by
  refine ⟨fun hcount => ?_, fun mean hcount hmean => ?_⟩
  · have hnone : selfMean k = none := by simp [selfMean, hcount]
    simp [selfAtBoundary, reversedCause, hnone]
  · have hsome : selfMean k = some mean := by
      simp [selfMean, Nat.ne_of_gt hcount, hmean]
    have hreversed : reversedMean c mean = decide (mean < 0 ∧ c.gDetect ≤ -mean) := by
      unfold reversedMean
      rw [← Bool.decide_and, decide_eq_decide]
      omega
    have hcountUp : (selfAtBoundary c k).reversed =
        if mean < 0 ∧ c.gDetect ≤ -mean then min 2 (k.reversed + 1) else 0 := by
      unfold selfAtBoundary
      simp only [hsome, hreversed, decide_eq_true_eq]
      split <;> rfl
    refine ⟨fun hpos hdetect => ?_, fun hsmall => ?_, fun hneg hdetect => ?_, fun hnot => ?_⟩
    · unfold selfAtBoundary
      simp only [hsome, hpos, hdetect, decide_true, Bool.and_self, if_true, true_and]
      split
      · have hnat : ((mean.toNat : Nat) : Int) = mean := Int.toNat_of_nonneg (by omega)
        unfold smooth clampInt
        rw [hnat]
        exact Int.toNat_of_nonneg (by omega)
      · exact Int.toNat_of_nonneg (by omega)
    · have hcond : ¬(decide (0 < mean) && decide ((c.gDetect : Int) ≤ mean)) = true := by
        simp only [Bool.and_eq_true, decide_eq_true_eq]
        omega
      unfold selfAtBoundary
      simp only [hsome, hcond]
      simp
    · have hboth : mean < 0 ∧ (c.gDetect : Int) ≤ -mean := ⟨hneg, hdetect⟩
      refine ⟨by rw [hcountUp, if_pos hboth], ?_⟩
      rw [reversedCause, hcountUp, if_pos hboth, hsome, Option.any_some, hreversed,
        decide_eq_true hboth, Bool.true_and, decide_eq_decide]
      omega
    · have hneither : ¬(mean < 0 ∧ (c.gDetect : Int) ≤ -mean) := by omega
      refine ⟨by rw [hcountUp, if_neg hneither], ?_⟩
      rw [reversedCause, hsome, Option.any_some, hreversed, decide_eq_false hneither, Bool.false_and]

/-! ### The survey record (R134 to R141) -/

theorem adopt_origination (frames : List SurveyFrame) (v : Survey) :
    (v.adopt frames).origination = v.origination := by
  unfold Survey.adopt
  split <;> rfl

theorem mergeOne_origination (v : Survey) (f : FrameRecord) :
    (v.mergeOne f).origination = v.origination := by
  unfold Survey.mergeOne
  split
  · rfl
  · split
    · rfl
    · split
      · rfl
      · split
        · split <;> rfl
        · rfl
        · split <;> rfl
        · rfl

theorem merge_origination (frames : List SurveyFrame) (v : Survey) :
    (v.merge frames).origination = v.origination := by
  unfold Survey.merge
  generalize frames.filter (fun f => f.record.generation = v.generation) = frames
  induction frames generalizing v with
  | nil => rfl
  | cons f frames ih => rw [List.foldl_cons, ih, mergeOne_origination]

theorem countDown_origination (v : Survey) : v.countDown.origination = v.origination := by
  unfold Survey.countDown
  split
  · rfl
  · split <;> rfl
  · split <;> rfl

theorem boundary_eq_originate (frames : List SurveyFrame) (v : Survey) :
    ∃ w : Survey, v.boundary frames = w.originate ∧ w.origination = v.origination :=
  ⟨_, rfl, by rw [countDown_origination, merge_origination, adopt_origination]⟩

theorem originate_of_some {v : Survey} {kind : SurveyKind} {n : Nat}
    (h : v.origination = some (kind, n)) :
    v.originate =
      { valid := true
        generation := if v.valid then (v.generation + 1) % 16 else 1
        kind := kind
        phase := if kind = .none then .over else .pending
        count := if kind = .none then 0 else n
        origination := none } := by
  simp [Survey.originate, h]

/-- One step of the countdown of a valid pending or running record (R139, R140). -/
theorem countDown_of_pending {v : Survey} (hvalid : v.valid = true) (hphase : v.phase = .pending) :
    v.countDown =
      if v.count ≤ 1 then { v with phase := .running, count := runLength v.kind }
      else { v with count := v.count - 1 } := by
  simp [Survey.countDown, Survey.phaseNow, hvalid, hphase]

theorem countDown_of_running {v : Survey} (hvalid : v.valid = true) (hphase : v.phase = .running) :
    v.countDown =
      if v.count ≤ 1 then { v with phase := .over, count := 0 } else { v with count := v.count - 1 } := by
  simp [Survey.countDown, Survey.phaseNow, hvalid, hphase]

theorem iterate_countDown_pending (n : Nat) (v : Survey) (hvalid : v.valid = true)
    (hphase : v.phase = .pending) (hcount : v.count = n + 1) :
    Survey.countDown^[n + 1] v = { v with phase := .running, count := runLength v.kind } := by
  induction n generalizing v with
  | zero => simp [countDown_of_pending hvalid hphase, hcount]
  | succ n ih =>
    rw [Function.iterate_succ_apply, countDown_of_pending hvalid hphase, if_neg (by omega)]
    exact ih _ hvalid hphase (by simp [hcount])

theorem iterate_countDown_running (n : Nat) (v : Survey) (hvalid : v.valid = true)
    (hphase : v.phase = .running) (hcount : v.count = n + 1) :
    Survey.countDown^[n + 1] v = { v with phase := .over, count := 0 } := by
  induction n generalizing v with
  | zero => simp [countDown_of_running hvalid hphase, hcount]
  | succ n ih =>
    rw [Function.iterate_succ_apply, countDown_of_running hvalid hphase, if_neg (by omega)]
    exact ih _ hvalid hphase (by simp [hcount])

theorem runLength_of_kind {kind : SurveyKind} (h : kind ≠ .none) :
    runLength kind = if kind = .interrupt then 512 else 256 := by
  cases kind <;> simp_all [runLength]

/-! ### The facts a boundary settles -/

theorem boundaryFacts_fields (c : Settings) (kind : BoundaryKind) (upsets : BoundaryUpsets)
    (g : CycleEdge) (s : State) :
    (boundaryFacts c kind upsets g s).faultCause =
        s.supervisor.faultCause.or (if reversedCause c s.correlator then some .reversed else none) ∧
      (boundaryFacts c kind upsets g s).solitary =
        (if s.supervisor.condition = .acquiring then
          solitaryAfter
            (surveyRead c kind upsets (boundaryEdge c g s) (boundaryStart c g s)).table.slots
            s.supervisor.solitary
         else s.supervisor.solitary) ∧
      (boundaryFacts c kind upsets g s).working =
        (s.supervisor.working ||
          (decide (s.supervisor.condition = .acquiring) &&
            (decide ((boundaryFacts c kind upsets g s).solitary = 16) ||
              alignedQualifies
                (leaveSolitary
                  (tableStage c upsets (boundaryEdge c g s) (boundaryStart c g s)).table.slots
                  s.agreement).lock
                s.supervisor.lastAligned
                (alignedHanded c kind upsets (boundaryEdge c g s) (boundaryStart c g s))))) ∧
      (boundaryFacts c kind upsets g s).brownout = s.supervisor.brownout ∧
      (boundaryFacts c kind upsets g s).mains = s.supervisor.mains := by
  obtain ⟨hsolitary, hworking⟩ :=
    settledFacts_solitary c kind upsets (boundaryEdge c g s) (boundaryStart c g s)
  obtain ⟨-, -, -, hreversed⟩ := selfAtBoundary_congr (c := c)
    (k := (boundaryStart c g s).correlator) (k' := s.correlator) (by simp) (by simp) (by simp)
    (by simp) (by simp)
  refine ⟨?_, ?_, ?_, by simp [boundaryFacts], by simp [boundaryFacts]⟩
  · simp [boundaryFacts, hreversed]
  · rw [boundaryFacts, hsolitary]
    simp
  · rw [boundaryFacts, hworking]
    simp

theorem conditionOf_acquiring_iff {loaded : Bool} {u : Supervisor} :
    conditionOf loaded u = .acquiring ↔
      u.faultCause = none ∧ loaded = true ∧ u.brownout = false ∧ u.mains = true ∧
        u.working = false := by
  unfold conditionOf
  cases u.faultCause <;> cases loaded <;> cases u.brownout <;> cases u.mains <;> cases u.working <;>
    simp <;> split_ifs <;> simp

/-- A boundary enters ACQUIRING from no other condition. -/
theorem boundaryCondition_acquiring {c : Settings} {kind : BoundaryKind} {upsets : BoundaryUpsets}
    {g : CycleEdge} {s : State} (hok : FactsAgree s)
    (h : boundaryCondition c kind upsets g s = .acquiring) : s.supervisor.condition = .acquiring := by
  obtain ⟨hfault, -, hworking, hbrownout, hmains⟩ := boundaryFacts_fields c kind upsets g s
  obtain ⟨hnone, hloaded, hclear, hpresent, hidle⟩ := conditionOf_acquiring_iff.mp h
  rw [hok.1]
  refine conditionOf_acquiring_iff.mpr ⟨?_, hloaded, hbrownout ▸ hclear, hmains ▸ hpresent, ?_⟩
  · rw [hfault, Option.or_eq_none_iff] at hnone
    exact hnone.1
  · rw [hworking, Bool.or_eq_false_iff] at hidle
    exact hidle.1

/-! ### A boundary without a configuration (R156) -/

/-- A boundary without a configuration changes the supervisor alone: neither its condition nor its alarms. -/
theorem takeBareBoundary_supervisor {g : CycleEdge} {s : State} (hok : FactsAgree s)
    (hc : s.config = none) (hload : s.load = .ended) :
    takeBareBoundary g s =
      (s.setSupervisor
        (settleFacts false s.table.slots s.agreement.lock [] (s.survey.phaseNow = .running)
          s.supervisor)).setEdge (some { g with boundary := none }) := by
  have hcondition : s.supervisor.condition = conditionOf false s.supervisor := by
    simpa [hc] using hok.1
  have hnot : s.supervisor.condition ≠ .acquiring := by
    rw [hcondition, conditionOf]
    split <;> simp
  have hagreement : takeSolitary (decide (s.supervisor.condition = .acquiring))
      (settleFacts false s.table.slots s.agreement.lock [] (s.survey.phaseNow = .running)
        s.supervisor).solitary s.agreement = s.agreement := by
    simp [takeSolitary_eq, hnot]
  have hstands : conditionOf false
      (settleFacts false s.table.slots s.agreement.lock [] (s.survey.phaseNow = .running)
        s.supervisor) = s.supervisor.condition := by
    rw [hcondition]
    simp [conditionOf, settleFacts]
  rw [takeBareBoundary, if_pos hload, superviseBoundary]
  rw [hagreement, derive_of_agrees]
  · rfl
  · simp only [State.setAgreement_fields, State.setSupervisor_fields, hc, Option.isSome_none, hstands]
    rfl

end Sys2Proof.Machine

namespace Sys2Proof.Proofs
open Sys2Proof.Machine Sys2Proof.Safety

/-- Settles O34: out of ACQUIRING alone is the working mark set, by solitary decision or qualification. -/
theorem qualificationSetsWorking : Obligations.QualificationSetsWorking := by
  intro c g kind upsets s hheld hc hedge hb
  obtain ⟨-, hsolitary, hworking, -, -⟩ := boundaryFacts_fields c kind upsets g s
  have hcount := takenState_solitary c kind upsets g s
  refine ⟨_, exec_frameBoundary_taken upsets hheld hc hedge hb, fun hok hnot => ?_,
    fun happly hsurvey hplan hstarted => ?_⟩ <;>
    simp only [drive_fields, takenState_fields, takenState_facts]
  · have hstays : ¬(boundaryCondition c kind upsets g s ≠ s.supervisor.condition ∧
        boundaryCondition c kind upsets g s = .acquiring) := fun h =>
      hnot (boundaryCondition_acquiring ((stationOk_iff s).mp hok).1 h.2)
    refine ⟨by simp [hworking, hnot], ?_, fun hlock => ?_⟩
    · rw [hcount, if_neg hstays, hsolitary, if_neg hnot]
    · simp [takeSolitary_eq, leaveSolitary_eq, hnot, hlock]
  · obtain ⟨htable, -, -, -⟩ := planRead_of_no_upset (c := c) (kind := kind)
      (g := boundaryEdge c g s) (s := boundaryStart c g s) happly hsurvey hplan
    obtain ⟨hcodes, hstates⟩ := takenState_codes (c := c) (kind := kind) (g := g) (s := s) happly
      hsurvey hplan hstarted
    simp only [takenState_fields] at hcodes hstates
    have hacquiring : s.supervisor.condition = .acquiring →
        (takenState c kind upsets g s).supervisor.solitary =
          (boundaryFacts c kind upsets g s).solitary := fun h => by
      rw [hcount, if_neg]
      rintro ⟨hne, heq⟩
      exact hne (heq.trans h.symm)
    have haligned : alignedHanded c kind upsets (boundaryEdge c g s) (boundaryStart c g s) =
        g.aligned.filter fun x => x ∈ codesOf (boundaryEnd c kind upsets g s).table.slots := by
      rw [hcodes, alignedHanded]
      apply List.filter_congr
      intro x _
      simp [htable]
    have hafter : s.supervisor.condition = .acquiring →
        (boundaryFacts c kind upsets g s).solitary =
          if ∃ e ∈ entriesOf (boundaryEnd c kind upsets g s).table.slots, e.state ≠ .parked then 0
          else min 16 (s.supervisor.solitary + 1) := fun h => by
      rw [hsolitary, if_pos h, solitaryAfter_eq, htable]
      simp only [hstates fun x => x ≠ .parked]
    have hlock : takeSolitary (decide (s.supervisor.condition = .acquiring))
          (boundaryFacts c kind upsets g s).solitary
          (leaveSolitary
            (tableStage c upsets (boundaryEdge c g s) (boundaryStart c g s)).table.slots
            s.agreement) =
        if s.agreement.lock = .solitary ∧
            ∃ e ∈ entriesOf (boundaryEnd c kind upsets g s).table.slots, e.state = .tracked then
          { s.agreement with lock := .locked, loss := 0 }
        else if s.supervisor.condition = .acquiring ∧
            (takenState c kind upsets g s).supervisor.solitary = 16 then
          { s.agreement with lock := .solitary, acquisition := 0 }
        else s.agreement := by
      rw [takeSolitary_eq, leaveSolitary_eq]
      simp only [decide_eq_true_eq, hstates fun x => x = .tracked]
      by_cases hc' : s.supervisor.condition = .acquiring
      · rw [hacquiring hc']
        split_ifs with h16 htracked htracked
        · exfalso
          obtain ⟨-, e, he, hstate⟩ := htracked
          rw [hafter hc', if_pos] at h16
          · simp at h16
          · exact (hstates fun x => x ≠ .parked).mpr ⟨e, he, by simp [hstate]⟩
        · rfl
        · rfl
        · rfl
      · simp [hc']
    refine ⟨haligned, hlock, fun hc' => ⟨?_, ?_⟩⟩
    · rw [hacquiring hc', hafter hc']
      by_cases hany : ∃ e ∈ entriesOf (boundaryEnd c kind upsets g s).table.slots, e.state ≠ .parked
      · rw [if_pos hany, if_neg]
        simpa using hany
      · rw [if_neg hany, if_pos]
        simpa using hany
    · rw [hworking, hacquiring hc', hc', takeSolitary_eq]
      by_cases h16 : (boundaryFacts c kind upsets g s).solitary = 16
      · simp [h16]
      · simp [h16, alignedQualifies, and_comm]

/-- Settles O35: the self frame mean, the reversed count and its cause. -/
theorem reversedFaults : Obligations.ReversedFaults := by
  have hself : ∀ (c : Settings) (g : CycleEdge) (kind : BoundaryKind) (upsets : BoundaryUpsets)
      (s : State),
      (takenState c kind upsets g s).correlator.gSelf = (selfAtBoundary c s.correlator).gSelf ∧
        (takenState c kind upsets g s).correlator.gSelfValid =
          (selfAtBoundary c s.correlator).gSelfValid ∧
        (takenState c kind upsets g s).correlator.reversed =
          (selfAtBoundary c s.correlator).reversed ∧
        (takenState c kind upsets g s).supervisor.faultCause =
          s.supervisor.faultCause.or
            (if reversedCause c s.correlator then some .reversed else none) := by
    intro c g kind upsets s
    obtain ⟨hg, hvalid, hreversed, -⟩ := selfAtBoundary_congr (c := c)
      (k := (boundaryStart c g s).correlator) (k' := s.correlator) (by simp) (by simp) (by simp)
      (by simp) (by simp)
    refine ⟨?_, ?_, ?_, ?_⟩
    · rw [takenState_correlator]
      exact hg
    · rw [takenState_correlator]
      exact hvalid
    · rw [takenState_correlator]
      exact hreversed
    · rw [(takenState_facts c kind upsets g s).1, (boundaryFacts_fields c kind upsets g s).1]
  refine ⟨fun c g kind upsets s hheld hc hedge hb hcount hneg hdetect hone hnone => ?_,
    fun c g kind upsets s hheld hc hedge hb => ?_⟩
  · obtain ⟨hg, hvalid, hreversed, hfault⟩ := hself c g kind upsets s
    obtain ⟨-, hlow, hhigh, -⟩ := (selfAtBoundary_spec c s.correlator).2 _ hcount rfl
    obtain ⟨hcounted, hcause⟩ := hhigh hneg (by omega)
    obtain ⟨hstands, -⟩ := hlow (.inl (by omega))
    have hfault' : (takenState c kind upsets g s).supervisor.faultCause = some .reversed := by
      rw [hfault, hnone, hcause, hone]
      rfl
    have hcondition : (takenState c kind upsets g s).supervisor.condition = .fault := by
      rw [takenState_condition, conditionOf, hfault']
      rfl
    have hsettled : boundaryCondition c kind upsets g s ≠ .regulating := by
      rcases boundaryCondition_or c kind upsets g s with h | ⟨h, -⟩
      · simp [← h, hcondition]
      · simp [hcondition] at h
    obtain ⟨hflt, hdemand⟩ := pins_of_fault (s := takenState c kind upsets g s) (by simpa using hheld)
      hcondition
    refine ⟨_, exec_frameBoundary_taken upsets hheld hc hedge hb, by simpa using hcondition,
      by simpa using hfault', by simp [hreversed, hcounted, hone], by simp [hg, hstands], hflt, hdemand,
      ?_⟩
    simp only [drive_fields, takenState_fields]
    exact ((planStage_spec _ _ _ _ _ _ _ _ (boundaryRegulation_eq c kind upsets g s)).2.1
      (by simpa using hsettled)).1
  · obtain ⟨hg, hvalid, hreversed, hfault⟩ := hself c g kind upsets s
    obtain ⟨hzero, hmeans⟩ := selfAtBoundary_spec c s.correlator
    refine ⟨_, exec_frameBoundary_taken upsets hheld hc hedge hb, fun hcount => ?_,
      fun mean hcount hmean => ?_⟩ <;>
      simp only [drive_fields, hg, hvalid, hreversed, hfault]
    · obtain ⟨hg', hvalid', hreversed', hcause⟩ := hzero hcount
      simp [hg', hvalid', hreversed', hcause]
    · obtain ⟨hpositive, hsmall, hnegative, hother⟩ := hmeans mean hcount hmean
      refine ⟨hpositive, hsmall, fun hneg hdetect => ?_, fun hnot => ?_⟩
      · obtain ⟨hcounted, hcause⟩ := hnegative hneg hdetect
        simp [hcounted, hcause]
      · obtain ⟨hcounted, hcause⟩ := hother hnot
        simp [hcounted, hcause]

/-- Settles O39: the countdown iterated, and the boundary's order of work on the record. -/
theorem countdownStartsAndEnds : Obligations.CountdownStartsAndEnds := by
  refine ⟨fun v n hvalid hkind hcount => ⟨fun hphase => ?_, fun hphase => ?_⟩,
    fun c g kind upsets s hheld hc hedge hb => ⟨_, exec_frameBoundary_taken upsets hheld hc hedge hb,
      ?_, fun frames hplan hstarted hframes => ?_⟩⟩
  · rw [iterate_countDown_pending n v hvalid hphase hcount, runLength_of_kind hkind]
  · exact iterate_countDown_running n v hvalid hphase hcount
  · simp only [drive_fields, takenState_facts, takenState_fields, decide_eq_decide]
    cases hvalid : (boundarySurvey c kind upsets g s).valid <;> simp [Survey.phaseNow, hvalid]
  · simp only [drive_fields] at hframes ⊢
    have hread : frames = surveyFrames (surveyRead c kind upsets (boundaryEdge c g s)
        (boundaryStart c g s)).table.slots := by
      rw [surveyFrames_eq, ← filterMap_of_surveyRead (φ := freshFrame) hplan hstarted (fun _ => rfl)
        fun _ => fresh_of_freshFrame]
      exact hframes
    rw [(takenState_fields c kind upsets g s).2.2.2.2.2.2.2.2.2.2.2.2.1, boundarySurvey,
      surveyStage_survey, ← hread]
    simp [Survey.boundary]

/-- Settles O40: the requests taken at a boundary, with a configuration and without one. -/
theorem boundaryTakesRequests : Obligations.BoundaryTakesRequests := by
  refine ⟨fun v horigination => ?_, fun c g kind upsets s hheld hc hedge hb => ?_,
    fun g kind upsets s hok hheld hc hedge hb => ?_⟩
  · obtain ⟨⟨kind, n⟩, hsome⟩ := Option.ne_none_iff_exists'.mp horigination
    rw [originate_of_some hsome]
  · have hhold : (boundaryFacts c kind upsets g s).hold =
        match s.supervisor.pendingHold with
        | some .hold => true
        | some .free => false
        | none => s.supervisor.hold := by
      simp [boundaryFacts] <;> rfl
    refine ⟨_, exec_frameBoundary_taken upsets hheld hc hedge hb, ?_⟩
    simp only [drive_fields, takenState_fields, takenState_facts, hhold]
    refine ⟨trivial, fun h => by rw [h], fun h => by rw [h], fun h => by rw [h],
      boundarySurvey_origination c kind upsets g s, fun surveyKind n horigination => ?_⟩
    obtain ⟨w, hw, hpending⟩ := boundary_eq_originate
      (surveyFrames (surveyRead c kind upsets (boundaryEdge c g s) (boundaryStart c g s)).table.slots)
      (boundaryStart c g s).survey
    rw [boundarySurvey, surveyStage_survey, hw, originate_of_some (hpending.trans (by simpa using horigination))]
    refine ⟨rfl, rfl, fun h => ?_, fun h => ?_⟩ <;> simp [h]
  · have hexec : exec (.frameBoundary upsets) s = .next (drive (takeBareBoundary g s)) := by
      simp [exec, execFrameBoundary, hheld, hc, hedge, hb]
    obtain ⟨hfacts, hpins⟩ := (stationOk_iff s).mp hok
    refine ⟨_, hexec, ?_⟩
    by_cases hload : s.load = .ended
    · rw [takeBareBoundary_supervisor hfacts hc hload]
      have hsame : pinsNow ((s.setSupervisor
          (settleFacts false s.table.slots s.agreement.lock [] (s.survey.phaseNow = .running)
            s.supervisor)).setEdge (some { g with boundary := none })) = s.pins := by
        rw [hpins]
        rfl
      refine ⟨?_, fun h => absurd hload h, fun _ hfault => ⟨rfl, ?_, rfl, rfl⟩⟩
      · rw [drive, hsame]
        rfl
      · obtain ⟨f, hf⟩ := Option.ne_none_iff_exists'.mp hfault
        have hcondition : s.supervisor.condition = .fault := condition_of_fault hok hf
        exact hcondition
    · rw [takeBareBoundary, if_neg hload]
      refine ⟨?_, fun _ => rfl, fun h => absurd h hload⟩
      have hsame : pinsNow (s.setEdge (some { g with boundary := none })) = s.pins := by
        rw [hpins]
        rfl
      rw [drive, hsame]
      rfl

end Sys2Proof.Proofs
end

section
/-! PROOFS. The plan of regulation and the survey record's adoption and merging (O33, O37, O38). -/

namespace Sys2Proof.Machine
open Sys2Proof.Safety

/-! ### The plan (R117 to R127) -/

theorem noUsableSelf_iff {c : Settings} {i : PlanInput} :
    noUsableSelf c i = true ↔ i.gSelfValid = false ∨ i.gSelf < c.gDetect := by
  simp [noUsableSelf]

theorem spacingHolds_of_some {c : Settings} {i : PlanInput} {n : Nat} (h : i.spacing = some n) :
    spacingHolds c i = decide (n < c.spacing) := by
  simp [spacingHolds, h]

theorem spacingHolds_of_none {c : Settings} {i : PlanInput} (h : i.spacing = none) :
    spacingHolds c i = false := by
  simp [spacingHolds, h]

/-- The error left after the anticipation (R120). -/
def remainingError (c : Settings) (i : PlanInput) (m : Int) : Int := m - c.target - anticipation i

theorem planStep_of_no_mean {c : Settings} {i : PlanInput} (h : i.mean = none) :
    planStep c i = zeroPlan (noUsableSelf c i) := by
  simp [planStep, h]

theorem planStep_of_no_self {c : Settings} {i : PlanInput} (h : noUsableSelf c i = true) :
    planStep c i = zeroPlan true := by
  unfold planStep
  split <;> simp [h]

theorem planStep_of_spacing {c : Settings} {i : PlanInput} (h : spacingHolds c i = true) :
    planStep c i = zeroPlan (noUsableSelf c i) := by
  unfold planStep
  split <;> simp [h]

/-- Past its preconditions a plan is the dead band's or the stages' (R117, R120). -/
theorem planStep_of_ready {c : Settings} {i : PlanInput} {m : Int} (hmean : i.mean = some m)
    (hself : noUsableSelf c i = false) (hspacing : spacingHolds c i = false) :
    planStep c i =
      if (remainingError c i m).natAbs < c.deadBand ∧ c.floor ≤ m then zeroPlan false
      else limitedPlan c i m (remainingError c i m) := by
  simp [planStep, hmean, hself, hspacing, remainingError]

/-- The three ends a plan can have. -/
theorem planStep_cases (c : Settings) (i : PlanInput) :
    planStep c i = zeroPlan (noUsableSelf c i) ∨
      (∃ m, i.mean = some m ∧ noUsableSelf c i = false ∧ spacingHolds c i = false ∧
        (c.floor ≤ m → c.deadBand ≤ (remainingError c i m).natAbs) ∧
        planStep c i = limitedPlan c i m (remainingError c i m)) := by
  cases hmean : i.mean with
  | none => exact Or.inl (planStep_of_no_mean hmean)
  | some m =>
    cases hself : noUsableSelf c i with
    | true => exact Or.inl (planStep_of_no_self hself)
    | false =>
      cases hspacing : spacingHolds c i with
      | true => exact Or.inl (by rw [planStep_of_spacing hspacing, hself])
      | false =>
        rw [planStep_of_ready hmean hself hspacing]
        split
        · exact Or.inl rfl
        · next hpast => exact Or.inr ⟨m, rfl, rfl, rfl, fun hfloor => by omega, rfl⟩

/-! ### The limits (R123 to R127) -/

theorem limitStep_eq (c : Settings) (q : Int) :
    limitStep c q = 10 * roundDiv (max (-(10 * c.stepLimit)) (min (10 * c.stepLimit) q)) 10 := rfl

theorem limitStep_bounds {c : Settings} (hlimit : 0 ≤ c.stepLimit) (q : Int) :
    -(10 * c.stepLimit) ≤ limitStep c q ∧ limitStep c q ≤ 10 * c.stepLimit := by
  have hround := natAbs_roundDiv_le
    (a := max (-(10 * c.stepLimit)) (min (10 * c.stepLimit) q)) (b := 10)
    (k := c.stepLimit.toNat) (by omega)
  rw [limitStep_eq]
  omega

/-- The range stage pulls a step towards 0, keeps it a multiple of 10 mA, and raises ILIMIT exactly where it cuts
one at the maximum (R125). -/
theorem rangeStep_spec {c : Settings} {i : PlanInput} {q : Int} (hlow : c.iMin ≤ i.setCurrent)
    (hhigh : i.setCurrent ≤ c.iMax) (hq : 10 ∣ q) :
    10 ∣ (rangeStep c i q).1 ∧ min q 0 ≤ (rangeStep c i q).1 ∧ (rangeStep c i q).1 ≤ max q 0 ∧
      ((rangeStep c i q).2 = true → (rangeStep c i q).1 = 10 * (c.iMax - i.setCurrent)) := by
  unfold rangeStep
  dsimp only
  split
  · exact ⟨by omega, by dsimp only; omega, by dsimp only; omega, fun _ => by dsimp only; omega⟩
  · split
    · exact ⟨by omega, by dsimp only; omega, by dsimp only; omega, fun h => by cases h⟩
    · exact ⟨hq, by omega, by omega, fun h => by cases h⟩

/-- The step the limits make of the floor stage's, in mA (R121 to R125). -/
def rangedStep (c : Settings) (i : PlanInput) (m r : Int) : Int × Bool :=
  rangeStep c i (limitStep c (floorStep c i m (rawStep c i r)))

theorem limitedPlan_eq (c : Settings) (i : PlanInput) (m r : Int) :
    limitedPlan c i m r =
      { step := if i.voltageLimit && decide (0 < (rangedStep c i m r).1) then 0
          else (rangedStep c i m r).1 / 10
        floor := decide (m < c.floor)
        ilimit := (rangedStep c i m r).2
        vlimit := i.voltageLimit && decide (0 < (rangedStep c i m r).1)
        noself := false } := rfl

/-- What the stages' plan keeps: the step limit, the voltage hold, and what its causes say (R123, R125, R126). -/
theorem limitedPlan_keeps {c : Settings} {i : PlanInput} (m r : Int) (hlimit : 0 ≤ c.stepLimit)
    (hlow : c.iMin ≤ i.setCurrent) (hhigh : i.setCurrent ≤ c.iMax) :
    -c.stepLimit ≤ (limitedPlan c i m r).step ∧ (limitedPlan c i m r).step ≤ c.stepLimit ∧
      (i.voltageLimit = true → (limitedPlan c i m r).step ≤ 0) ∧
      ((limitedPlan c i m r).vlimit = true →
        i.voltageLimit = true ∧ (limitedPlan c i m r).step = 0) ∧
      ((limitedPlan c i m r).ilimit = true →
        i.setCurrent + (limitedPlan c i m r).step = c.iMax ∨
          (limitedPlan c i m r).vlimit = true) := by
  obtain ⟨hdvd, hmin, hmax, hcut⟩ :=
    rangeStep_spec hlow hhigh (limitStep_dvd c (floorStep c i m (rawStep c i r)))
  obtain ⟨hleast, hmost⟩ := limitStep_bounds hlimit (floorStep c i m (rawStep c i r))
  rw [limitedPlan_eq]
  unfold rangedStep
  generalize rangeStep c i (limitStep c (floorStep c i m (rawStep c i r))) = q at *
  dsimp only
  cases hheld : i.voltageLimit && decide (0 < q.1) with
  | true =>
    simp only [Bool.and_eq_true, decide_eq_true_eq] at hheld
    simp only [if_true]
    exact ⟨by omega, hlimit, fun _ => le_rfl, fun _ => ⟨hheld.1, trivial⟩,
      fun _ => Or.inr trivial⟩
  | false =>
    simp only [Bool.and_eq_false_iff, decide_eq_false_iff_not] at hheld
    simp only [Bool.false_eq_true, if_false, or_false, IsEmpty.forall_iff, true_and]
    refine ⟨by omega, by omega, fun hv => ?_, fun hilimit => ?_⟩
    · rw [hv] at hheld
      simp only [Bool.true_eq_false, false_or] at hheld
      omega
    · have := hcut hilimit
      omega

theorem rangeStep_eq (c : Settings) (i : PlanInput) (q : Int) :
    rangeStep c i q =
      (if 10 * c.iMax < 10 * i.setCurrent + q then 10 * c.iMax - 10 * i.setCurrent
        else if 10 * i.setCurrent + q < 10 * c.iMin then 10 * c.iMin - 10 * i.setCurrent
        else q,
        decide (10 * c.iMax < 10 * i.setCurrent + q)) := by
  unfold rangeStep
  dsimp only
  split
  · next h => simp [h]
  · next h =>
    split <;> simp [h]

/-- The stages' step in mA is the ranged one, or 0 where the voltage hold takes it (R126). -/
theorem ten_mul_limitedPlan_step {c : Settings} {i : PlanInput} (m r : Int)
    (hlow : c.iMin ≤ i.setCurrent) (hhigh : i.setCurrent ≤ c.iMax) :
    10 * (limitedPlan c i m r).step =
      if i.voltageLimit = true ∧ 0 < (rangedStep c i m r).1 then 0 else (rangedStep c i m r).1 := by
  have hdvd : 10 ∣ (rangedStep c i m r).1 := (rangeStep_spec hlow hhigh (limitStep_dvd c _)).1
  rw [limitedPlan_eq]
  dsimp only
  simp only [Bool.and_eq_true, decide_eq_true_eq]
  split <;> omega

/-! ### The order of generations and adoption (R136, R137) -/

theorem generationAhead_iff {a b : Nat} :
    generationAhead a b = true ↔ 1 ≤ (a + 16 - b) % 16 ∧ (a + 16 - b) % 16 ≤ 7 := by
  simp [generationAhead]

theorem generationAhead_eq_false_iff {a b : Nat} :
    generationAhead a b = false ↔ (a + 16 - b) % 16 = 0 ∨ 8 ≤ (a + 16 - b) % 16 := by
  rw [← Bool.not_eq_true, generationAhead_iff]
  omega

theorem generationAhead_iff_exists {a b : Nat} (ha : a < 16) (hb : b < 16) :
    generationAhead a b = true ↔ ∃ d, 1 ≤ d ∧ d ≤ 7 ∧ a = (b + d) % 16 := by
  rw [generationAhead_iff]
  constructor
  · exact fun h => ⟨(a + 16 - b) % 16, h.1, h.2, by omega⟩
  · rintro ⟨d, hone, hseven, rfl⟩
    omega

theorem isNewer_of_shown {v : Survey} {f : FrameRecord} (h : f.generation ≠ 0 ∨ f.kind ≠ .none) :
    v.isNewer f = (!v.valid || generationAhead f.generation v.generation) := by
  unfold Survey.isNewer
  have hnot : (decide (f.generation = 0) && decide (f.kind = .none)) = false := by
    simpa only [Bool.and_eq_false_iff, decide_eq_false_iff_not] using h
  rw [hnot, Bool.not_false, Bool.true_and]

/-- What a newer frame is to a valid record (R136). -/
theorem ahead_of_isNewer {v : Survey} {f : FrameRecord} (hvalid : v.valid = true)
    (h : v.isNewer f = true) : generationAhead f.generation v.generation = true := by
  simp only [Survey.isNewer, hvalid, Bool.not_true, Bool.false_or, Bool.and_eq_true] at h
  exact h.2

/-- Taking the lower sender along a list leaves one of the lowest. -/
theorem foldl_lowerSender_some (b : SurveyFrame) (fs : List SurveyFrame) :
    ∃ f ∈ b :: fs, fs.foldl lowerSender (some b) = some f ∧ ∀ x ∈ b :: fs, f.sender ≤ x.sender := by
  induction fs generalizing b with
  | nil => exact ⟨b, by simp, rfl, by simp⟩
  | cons y ys ih =>
    have hstep : ∃ z, lowerSender (some b) y = some z ∧ (z = b ∨ z = y) ∧
        z.sender ≤ b.sender ∧ z.sender ≤ y.sender := by
      unfold lowerSender
      dsimp only
      split
      · exact ⟨y, rfl, Or.inr rfl, by omega, le_rfl⟩
      · exact ⟨b, rfl, Or.inl rfl, le_rfl, by omega⟩
    obtain ⟨z, hz, hwhich, hb, hy⟩ := hstep
    obtain ⟨f, hf, hfold, hlow⟩ := ih z
    have hfz : f.sender ≤ z.sender := hlow z List.mem_cons_self
    refine ⟨f, ?_, by rw [List.foldl_cons, hz, hfold], fun x hx => ?_⟩
    · rcases List.mem_cons.mp hf with rfl | hf
      · rcases hwhich with rfl | rfl <;> simp
      · exact List.mem_cons_of_mem _ (List.mem_cons_of_mem _ hf)
    · rcases List.mem_cons.mp hx with rfl | hx
      · omega
      · rcases List.mem_cons.mp hx with rfl | hx
        · omega
        · exact hlow x (List.mem_cons_of_mem _ hx)

theorem foldl_lowerSender {fs : List SurveyFrame} (h : fs ≠ []) :
    ∃ f ∈ fs, fs.foldl lowerSender none = some f ∧ ∀ x ∈ fs, f.sender ≤ x.sender := by
  obtain ⟨b, ys, rfl⟩ := List.exists_cons_of_ne_nil h
  exact foldl_lowerSender_some b ys

/-- Whether no frame of a list is ahead of a generation (R137). -/
def Unexceeded (newer : List SurveyFrame) (f : SurveyFrame) : Prop :=
  ∀ x ∈ newer, generationAhead x.record.generation f.record.generation = false

/-- The newest frame is one of the lowest sender among the unexceeded ones, or among all where there is none. -/
theorem newestFrame_spec {newer : List SurveyFrame} (hne : newer ≠ []) :
    ∃ f ∈ newer, newestFrame newer = some f ∧
      ((∃ y ∈ newer, Unexceeded newer y) →
        Unexceeded newer f ∧ ∀ x ∈ newer, Unexceeded newer x → f.sender ≤ x.sender) ∧
      ((¬ ∃ y ∈ newer, Unexceeded newer y) → ∀ x ∈ newer, f.sender ≤ x.sender) := by
  unfold newestFrame
  dsimp only
  generalize hunex : newer.filter (fun f =>
    newer.all fun f' => !generationAhead f'.record.generation f.record.generation) = unexceeded
  have hmem : ∀ x, x ∈ unexceeded ↔ x ∈ newer ∧ Unexceeded newer x := by
    intro x
    rw [← hunex]
    simp [Unexceeded]
  cases hempty : unexceeded.isEmpty with
  | true =>
    have hnone : ¬ ∃ y ∈ newer, Unexceeded newer y := by
      rintro ⟨y, hy⟩
      rw [List.isEmpty_iff.mp hempty] at hmem
      exact List.not_mem_nil ((hmem y).mpr hy)
    obtain ⟨f, hf, hfold, hlow⟩ := foldl_lowerSender hne
    exact ⟨f, hf, hfold, fun h => absurd h hnone, fun _ => hlow⟩
  | false =>
    obtain ⟨f, hf, hfold, hlow⟩ := foldl_lowerSender (fs := unexceeded)
      (by rintro rfl; cases hempty)
    obtain ⟨hfnew, hfunex⟩ := (hmem f).mp hf
    exact ⟨f, hfnew, hfold, fun _ => ⟨hfunex, fun x hx hxu => hlow x ((hmem x).mpr ⟨hx, hxu⟩)⟩,
      fun h => absurd ⟨f, hfnew, hfunex⟩ h⟩

/-- Against a valid record the newer frames lie within seven of it, so one of them is ahead of all (R136). -/
theorem exists_unexceeded {v : Survey} {newer : List SurveyFrame} (hvalid : v.valid = true)
    (hbound : ∀ f ∈ newer, f.record.generation < 16)
    (hnewer : ∀ f ∈ newer, v.isNewer f.record = true) (hne : newer ≠ []) :
    ∃ y ∈ newer, Unexceeded newer y := by
  obtain ⟨y, hy, hmax⟩ := Finset.exists_max_image newer.toFinset
    (fun f => (f.record.generation + 16 - v.generation) % 16)
    (by simpa [List.toFinset_nonempty_iff] using hne)
  simp only [List.mem_toFinset] at hy hmax
  refine ⟨y, hy, fun x hx => ?_⟩
  have hxy := hmax x hx
  have hxahead := generationAhead_iff.mp (ahead_of_isNewer hvalid (hnewer x hx))
  have hyahead := generationAhead_iff.mp (ahead_of_isNewer hvalid (hnewer y hy))
  have hxb := hbound x hx
  have hyb := hbound y hy
  rw [generationAhead_eq_false_iff]
  omega

/-! ### Merging (R138) -/

/-- Whether a frame shows a survey (R138). -/
def FrameRecord.Shows (f : FrameRecord) : Prop := f.kind ≠ .none ∧ f.phase ≠ .over

/-- The frames that a frame's or a record's survey has left. -/
def framesLeft (f : FrameRecord) : Nat := if f.phase = .running then 32 * f.count else f.count

/-- How a kind, a phase and a count rank in merging, the lower the stronger: the kind first, then RUNNING before
PENDING, then the count (R138). -/
def surveyRank (kind : SurveyKind) (phase : SurveyPhase) (count : Nat) : Nat × Nat × Nat :=
  (kindCode kind, if phase = .running then 0 else 1, count)

/-- The order of those ranks. -/
def RankBefore (a b : Nat × Nat × Nat) : Prop :=
  a.1 < b.1 ∨ a.1 = b.1 ∧ (a.2.1 < b.2.1 ∨ a.2.1 = b.2.1 ∧ a.2.2 < b.2.2)

def Survey.rank (v : Survey) : Nat × Nat × Nat := surveyRank v.kind v.phase v.count

def FrameRecord.rank (f : FrameRecord) : Nat × Nat × Nat := surveyRank f.kind f.phase (framesLeft f)

theorem kindCode_injective {k l : SurveyKind} (h : kindCode k = kindCode l) : k = l := by
  cases k <;> cases l <;> simp [kindCode] at h ⊢

theorem kindCode_pos {k : SurveyKind} (h : k ≠ .none) : 0 < kindCode k := by
  cases k <;> simp [kindCode] at h ⊢

theorem not_rankBefore_antisymm {a b : Nat × Nat × Nat} (hab : ¬ RankBefore a b)
    (hba : ¬ RankBefore b a) : a = b := by
  simp only [RankBefore] at hab hba
  exact Prod.ext (by omega) (Prod.ext (by omega) (by omega))

theorem not_rankBefore_trans {a b c : Nat × Nat × Nat} (hab : ¬ RankBefore a b)
    (hbc : ¬ RankBefore b c) : ¬ RankBefore a c := by
  simp only [RankBefore] at hab hbc ⊢
  omega

theorem not_rankBefore_of_before {a b : Nat × Nat × Nat} (h : RankBefore a b) :
    ¬ RankBefore b a := by
  simp only [RankBefore] at h ⊢
  omega

theorem take_of_shows {f : FrameRecord} (h : f.Shows) (v : Survey) :
    v.take f = { v with kind := f.kind, phase := f.phase, count := framesLeft f } := by
  obtain ⟨-, hphase⟩ := h
  unfold Survey.take framesLeft
  cases hp : f.phase <;> simp_all

theorem rank_take {f : FrameRecord} (h : f.Shows) (v : Survey) : (v.take f).rank = f.rank := by
  rw [take_of_shows h]
  rfl

theorem phaseNow_eq_over_iff {v : Survey} :
    v.phaseNow = .over ↔ v.valid = false ∨ v.phase = .over := by
  unfold Survey.phaseNow
  cases v.valid <;> simp

theorem phaseNow_take_of_shows {f : FrameRecord} {v : Survey} (h : f.Shows)
    (hv : v.phaseNow ≠ .over) : (v.take f).phaseNow ≠ .over := by
  rw [ne_eq, phaseNow_eq_over_iff, not_or] at hv ⊢
  rw [take_of_shows h]
  exact ⟨hv.1, h.2⟩

theorem mergeOne_of_over {v : Survey} (h : v.phaseNow = .over) (f : FrameRecord) :
    v.mergeOne f = v := by
  simp [Survey.mergeOne, h]

theorem mergeOne_of_not_shows {f : FrameRecord} (h : ¬ f.Shows) (v : Survey) : v.mergeOne f = v := by
  have hnot : f.kind = .none ∨ f.phase = .over := by
    by_contra hc
    rw [not_or] at hc
    exact h hc
  rcases hnot with hkind | hphase
  · simp [Survey.mergeOne, hkind]
  · simp [Survey.mergeOne, hphase]

theorem lt_unitsOf_iff {a b : Nat} : a < unitsOf b ↔ 32 * a < b := by
  unfold unitsOf
  omega

/-- A frame that shows a survey is taken into a survey exactly where it ranks before it (R138). -/
theorem mergeOne_of_shows {f : FrameRecord} {v : Survey} (hf : f.Shows) (hv : v.phaseNow ≠ .over) :
    (RankBefore f.rank v.rank → v.mergeOne f = v.take f) ∧
      (¬ RankBefore f.rank v.rank → v.mergeOne f = v) := by
  have hvphase : v.phase ≠ .over := fun h => hv (phaseNow_eq_over_iff.mpr (Or.inr h))
  unfold Survey.mergeOne
  rw [if_neg (by simp [hf.1, hf.2, hv])]
  by_cases hlower : kindCode f.kind < kindCode v.kind
  · rw [if_pos hlower]
    exact ⟨fun _ => rfl, fun h => absurd (Or.inl hlower) h⟩
  · rw [if_neg hlower]
    by_cases hkind : f.kind = v.kind
    · rw [if_neg (not_not.mpr hkind), take_of_shows hf, hkind]
      have hrank : RankBefore f.rank v.rank ↔
          (if f.phase = .running then 0 else 1) < (if v.phase = .running then 0 else 1) ∨
            (if f.phase = .running then 0 else 1) = (if v.phase = .running then 0 else 1) ∧
              framesLeft f < v.count := by
        simp [RankBefore, FrameRecord.rank, Survey.rank, surveyRank, hkind]
      rw [hrank]
      unfold framesLeft
      cases v with
      | mk valid generation kind phase count origination =>
      dsimp only at hvphase ⊢
      cases phase with
      | pending =>
        cases hp : f.phase with
        | pending =>
          simp
          omega
        | running => simp
        | _ => exact absurd hp hf.2
      | running =>
        cases hp : f.phase with
        | pending => simp
        | running =>
          simp [lt_unitsOf_iff]
          omega
        | _ => exact absurd hp hf.2
      | _ => exact absurd rfl hvphase
    · rw [if_pos hkind]
      have hcode : kindCode f.kind ≠ kindCode v.kind := fun h => hkind (kindCode_injective h)
      refine ⟨fun h => ?_, fun _ => rfl⟩
      simp only [RankBefore, FrameRecord.rank, Survey.rank, surveyRank] at h
      omega

/-- A record that merging makes of a record and some frames: one of them, and none ranks before it (R138). -/
def MergedOf (v : Survey) (fs : List SurveyFrame) (w : Survey) : Prop :=
  (w = v ∨ ∃ f ∈ fs, f.record.Shows ∧ w = v.take f.record) ∧ ¬ RankBefore v.rank w.rank ∧
    ∀ f ∈ fs, f.record.Shows → ¬ RankBefore f.record.rank w.rank

theorem take_take (v : Survey) (f g : FrameRecord) : (v.take f).take g = v.take g := rfl

theorem mergedOf_foldl (fs : List SurveyFrame) (v : Survey) (hv : v.phaseNow ≠ .over) :
    MergedOf v fs (fs.foldl (fun v f => v.mergeOne f.record) v) := by
  induction fs generalizing v with
  | nil => exact ⟨Or.inl rfl, by simp [RankBefore], by simp⟩
  | cons g gs ih =>
    rw [List.foldl_cons]
    by_cases htaken : g.record.Shows ∧ RankBefore g.record.rank v.rank
    · obtain ⟨hshows, hbefore⟩ := htaken
      rw [(mergeOne_of_shows hshows hv).1 hbefore]
      obtain ⟨hwhich, hfirst, hrest⟩ := ih _ (phaseNow_take_of_shows hshows hv)
      rw [rank_take hshows] at hfirst
      refine ⟨?_, not_rankBefore_trans (not_rankBefore_of_before hbefore) hfirst, ?_⟩
      · rcases hwhich with hw | ⟨f, hf, hfshows, hw⟩
        · exact Or.inr ⟨g, List.mem_cons_self, hshows, hw⟩
        · exact Or.inr ⟨f, List.mem_cons_of_mem _ hf, hfshows, hw.trans (take_take v _ _)⟩
      · intro f hf hfshows
        rcases List.mem_cons.mp hf with rfl | hf
        · exact hfirst
        · exact hrest f hf hfshows
    · have hstands : v.mergeOne g.record = v := by
        by_cases hshows : g.record.Shows
        · exact (mergeOne_of_shows hshows hv).2 fun h => htaken ⟨hshows, h⟩
        · exact mergeOne_of_not_shows hshows v
      rw [hstands]
      obtain ⟨hwhich, hfirst, hrest⟩ := ih v hv
      refine ⟨?_, hfirst, ?_⟩
      · rcases hwhich with hw | ⟨f, hf, hfw⟩
        · exact Or.inl hw
        · exact Or.inr ⟨f, List.mem_cons_of_mem _ hf, hfw⟩
      · intro f hf hfshows
        rcases List.mem_cons.mp hf with rfl | hf
        · exact not_rankBefore_trans (fun h => htaken ⟨hfshows, h⟩) hfirst
        · exact hrest f hf hfshows

/-- The frames that merging takes into a record: those of its generation (R138). -/
def sameGeneration (v : Survey) (fs : List SurveyFrame) : List SurveyFrame :=
  fs.filter fun f => f.record.generation = v.generation

theorem merge_of_over {v : Survey} (h : v.phaseNow = .over) (fs : List SurveyFrame) :
    v.merge fs = v := by
  unfold Survey.merge
  induction fs.filter (fun f => f.record.generation = v.generation) with
  | nil => rfl
  | cons g gs ih => rw [List.foldl_cons, mergeOne_of_over h, ih]

theorem mergedOf_merge {v : Survey} (h : v.phaseNow ≠ .over) (fs : List SurveyFrame) :
    MergedOf v (sameGeneration v fs) (v.merge fs) := mergedOf_foldl _ v h

/-- A merged record differs from the record in kind, phase and count alone, and is a survey still. -/
theorem MergedOf.fields {v w : Survey} {fs : List SurveyFrame} (h : MergedOf v fs w)
    (hv : v.phaseNow ≠ .over) :
    w = { v with kind := w.kind, phase := w.phase, count := w.count } ∧ w.phase ≠ .over := by
  have hvphase : v.phase ≠ .over := fun hp => hv (phaseNow_eq_over_iff.mpr (Or.inr hp))
  rcases h.1 with rfl | ⟨f, _, hshows, rfl⟩
  · exact ⟨rfl, hvphase⟩
  · rw [take_of_shows hshows]
    exact ⟨rfl, hshows.2⟩

/-- Two surveys of one rank are of one kind, phase and count. -/
theorem eq_of_surveyRank_eq {k l : SurveyKind} {p q : SurveyPhase} {m n : Nat} (hp : p ≠ .over)
    (hq : q ≠ .over) (h : surveyRank k p m = surveyRank l q n) : k = l ∧ p = q ∧ m = n := by
  simp only [surveyRank, Prod.mk.injEq] at h
  obtain ⟨hkind, hphase, hcount⟩ := h
  refine ⟨kindCode_injective hkind, ?_, hcount⟩
  cases p <;> cases q <;> simp at hphase hp hq ⊢

/-- What merging makes does not depend on how the frames stand in their list. -/
theorem MergedOf.unique {v w w' : Survey} {fs gs : List SurveyFrame} (hv : v.phaseNow ≠ .over)
    (hmem : ∀ f, f ∈ fs ↔ f ∈ gs) (hw : MergedOf v fs w) (hw' : MergedOf v gs w') : w = w' := by
  have hle : ∀ {a b : Survey} {xs ys : List SurveyFrame}, (∀ f, f ∈ xs → f ∈ ys) →
      MergedOf v xs a → MergedOf v ys b → ¬ RankBefore a.rank b.rank := by
    intro a b xs ys hsub ha hb
    rcases ha.1 with rfl | ⟨f, hf, hshows, rfl⟩
    · exact hb.2.1
    · rw [rank_take hshows]
      exact hb.2.2 f (hsub f hf) hshows
  have hrank := not_rankBefore_antisymm (hle (fun f => (hmem f).mp) hw hw')
    (hle (fun f => (hmem f).mpr) hw' hw)
  obtain ⟨hfields, hphase⟩ := hw.fields hv
  obtain ⟨hfields', hphase'⟩ := hw'.fields hv
  obtain ⟨hkind, hp, hcount⟩ := eq_of_surveyRank_eq hphase hphase' hrank
  rw [hfields, hfields', hkind, hp, hcount]

end Sys2Proof.Machine

namespace Sys2Proof.Proofs
open Sys2Proof.Machine Sys2Proof.Safety

/-- Settles O33: a plan is the zero plan of its preconditions or of the dead band, or what the stages make of the
remaining error, and the range stage only pulls a limited step towards 0. -/
theorem planKeepsLimits : Obligations.PlanKeepsLimits := by
  intro c i hlimit hlow hhigh
  obtain ⟨hleast, hmost⟩ := planStep_range hlow hhigh
  refine ⟨planStep c i, rfl, ?_⟩
  have hkeeps : -c.stepLimit ≤ (planStep c i).step ∧ (planStep c i).step ≤ c.stepLimit ∧
      (i.voltageLimit = true → (planStep c i).step ≤ 0) ∧
      ((planStep c i).vlimit = true → i.voltageLimit = true ∧ (planStep c i).step = 0) ∧
      ((planStep c i).ilimit = true →
        i.setCurrent + (planStep c i).step = c.iMax ∨ (planStep c i).vlimit = true) ∧
      (planStep c i).noself = noUsableSelf c i := by
    rcases planStep_cases c i with hplan | ⟨m, _, hself, _, _, hplan⟩
    · rw [hplan]
      simp [zeroPlan, hlimit]
    · rw [hplan, hself]
      obtain ⟨h1, h2, h3, h4, h5⟩ := limitedPlan_keeps m (remainingError c i m) hlimit hlow hhigh
      exact ⟨h1, h2, h3, h4, h5, rfl⟩
  obtain ⟨hbelow, habove, hhold, hvlimit, hilimit, hnoself⟩ := hkeeps
  have hready : ∀ m, i.mean = some m → c.gDetect ≤ i.gSelf → i.gSelfValid = true →
      spacingHolds c i = false → planStep c i =
        if (remainingError c i m).natAbs < c.deadBand ∧ c.floor ≤ m then zeroPlan false
        else limitedPlan c i m (remainingError c i m) := fun m hmean hdetect hvalid hspacing =>
    planStep_of_ready hmean (by simp [noUsableSelf, hvalid, hdetect]) hspacing
  refine ⟨hbelow, habove, hleast, hmost, hhold, hvlimit, hilimit, fun h => ?_, fun h => ?_,
    fun n hn hless => ?_, fun m hm hfloor hband => ?_, fun m hm hdetect hvalid hnone => ?_,
    by rw [hnoself, noUsableSelf_iff], ?_⟩
  · rw [planStep_of_no_mean h]; rfl
  · rw [planStep_of_no_self (noUsableSelf_iff.mpr h)]; exact ⟨rfl, rfl⟩
  · rw [planStep_of_spacing (by simp [spacingHolds_of_some hn, hless])]; rfl
  · rcases planStep_cases c i with hplan | ⟨m', hm', _, _, hpast, _⟩
    · rw [hplan]; rfl
    · cases hm.symm.trans hm'
      exact absurd (hpast hfloor) (by unfold remainingError; omega)
  · rw [hready m hm hdetect hvalid (spacingHolds_of_none hnone)]
    split
    · next hband => simp [zeroPlan, hband.2]
    · rfl
  · rintro m a r q0 q1 q2 q3 hm hdetect hvalid hspacing rfl rfl rfl rfl rfl rfl
    have hspaced : spacingHolds c i = false := by
      cases hs : i.spacing with
      | none => exact spacingHolds_of_none hs
      | some n => simp [spacingHolds_of_some hs, hspacing n hs]
    rw [hready m hm hdetect hvalid hspaced]
    have herror : m - c.target - roundDiv
        (i.gSelf * i.applied + (i.neighbours.map fun n => (n.1 : Int) * (10 * n.2)).sum) 1000 =
          remainingError c i m := rfl
    rw [herror]
    have hranged : rangedStep c i m (remainingError c i m) =
        rangeStep c i (limitStep c (floorStep c i m (rawStep c i (remainingError c i m)))) := rfl
    rw [rangeStep_eq, limitStep_eq] at hranged
    simp only [Int.abs_eq_natAbs]
    refine ⟨fun hband hfloor => ?_, fun hpast => ?_⟩
    · rw [if_pos ⟨by omega, hfloor⟩]; rfl
    · rw [if_neg (by omega)]
      refine ⟨?_, rfl, ?_, ?_⟩
      · rw [ten_mul_limitedPlan_step m _ hlow hhigh, hranged]; rfl
      · rw [limitedPlan_eq, hranged]; rfl
      · rw [limitedPlan_eq, hranged]; rfl

/-- Settles O37: within seven of a valid record the order of generations is linear, so the newer frames have an
unexceeded one, and adoption takes the lowest sender of those. -/
theorem newestGenerationIsAdopted : Obligations.NewestGenerationIsAdopted := by
  refine ⟨⟨fun a ha b hb h => ?_, fun v f hv hf => ⟨fun hgen hkind => ?_, fun hshown => ?_⟩⟩,
    fun frames v hv hbound => ⟨fun hnone => ?_, fun hsome => ?_⟩⟩
  · have hab := generationAhead_iff.mp h.1
    have hba := generationAhead_iff.mp h.2
    omega
  · simp [Survey.isNewer, hgen, hkind]
  · rw [isNewer_of_shown hshown]
    refine ⟨fun hvalid => by simp [hvalid], fun hvalid => ?_⟩
    simp only [hvalid, Bool.not_true, Bool.false_or]
    exact generationAhead_iff_exists hf hv
  · have hempty : (frames.filter fun f => v.isNewer f.record) = [] :=
      List.filter_eq_nil_iff.mpr fun f hf => by simp [hnone f hf]
    simp only [Survey.adopt, hempty]
    rfl
  · generalize hnewer : (frames.filter fun f => v.isNewer f.record) = newer
    have hmem : ∀ x, x ∈ newer ↔ x ∈ frames ∧ v.isNewer x.record = true := by
      intro x
      rw [← hnewer, List.mem_filter]
    obtain ⟨f0, hf0⟩ := hsome
    have hne : newer ≠ [] := List.ne_nil_of_mem ((hmem f0).mpr hf0)
    obtain ⟨f, hf, hnewest, hunexceeded, hexceeded⟩ := newestFrame_spec hne
    obtain ⟨hframe, hfnew⟩ := (hmem f).mp hf
    refine ⟨f, hframe, hfnew, fun hcase x hx hxnew => ?_, fun hall x hx hxnew => ?_, ?_⟩
    · have hexists : ∃ y ∈ newer, Unexceeded newer y := by
        rcases hcase with hvalid | ⟨y, hy, hynew, hyahead⟩
        · exact exists_unexceeded hvalid (fun z hz => hbound z ((hmem z).mp hz).1)
            (fun z hz => ((hmem z).mp hz).2) hne
        · exact ⟨y, (hmem y).mpr ⟨hy, hynew⟩, fun z hz =>
            hyahead z ((hmem z).mp hz).1 ((hmem z).mp hz).2⟩
      obtain ⟨hfun, hlow⟩ := hunexceeded hexists
      have hxmem := (hmem x).mpr ⟨hx, hxnew⟩
      exact ⟨hfun x hxmem, fun hgen => hlow x hxmem (by simpa [Unexceeded, hgen] using hfun)⟩
    · refine hexceeded ?_ x ((hmem x).mpr ⟨hx, hxnew⟩)
      rintro ⟨y, hy, hyun⟩
      obtain ⟨hyf, hynew⟩ := (hmem y).mp hy
      obtain ⟨z, hz, hznew, hzahead⟩ := hall y hyf hynew
      rw [hyun z ((hmem z).mpr ⟨hz, hznew⟩)] at hzahead
      cases hzahead
    · unfold Survey.adopt
      rw [hnewer, hnewest]
      rfl

/-- Settles O38: merging keeps the survey of the lowest rank among the record's and the frames', and a rank belongs
to one survey. -/
theorem mergeIgnoresOrder : Obligations.MergeIgnoresOrder := by
  refine ⟨fun v xs ys hperm => ?_, fun v xs hover => merge_of_over hover xs, ?_⟩
  · by_cases hover : v.phaseNow = .over
    · rw [merge_of_over hover, merge_of_over hover]
    · exact MergedOf.unique hover (fun f => (hperm.filter _).mem_iff) (mergedOf_merge hover xs)
        (mergedOf_merge hover ys)
  · rintro v w xs same left hvalid hkind hphase rfl rfl rfl
    have hv : v.phaseNow ≠ .over := by
      rw [ne_eq, phaseNow_eq_over_iff, hvalid]
      simpa using hphase
    have hmerged := mergedOf_merge hv xs
    obtain ⟨hfields, hover⟩ := hmerged.fields hv
    obtain ⟨hwhich, hrecord, hframes⟩ := hmerged
    generalize v.merge xs = w at *
    have hsame : ∀ f, f ∈ xs.filter (fun f =>
        f.record.generation = v.generation ∧ f.record.kind ≠ .none ∧ f.record.phase ≠ .over) ↔
          f ∈ sameGeneration v xs ∧ f.record.Shows := by
      intro f
      simp [sameGeneration, FrameRecord.Shows, and_assoc]
    generalize xs.filter (fun f => decide (
      f.record.generation = v.generation ∧ f.record.kind ≠ .none ∧ f.record.phase ≠ .over)) = same at *
    have hranks : ∀ f ∈ same, f.record.phase ≠ .over ∧ ¬ RankBefore f.record.rank w.rank :=
      fun f hf => ⟨((hsame f).mp hf).2.2, hframes f ((hsame f).mp hf).1 ((hsame f).mp hf).2⟩
    have hone : (v.kind = w.kind ∧ v.phase = w.phase ∧ w.count = v.count) ∨
        ∃ f ∈ same, f.record.kind = w.kind ∧ f.record.phase = w.phase ∧
          w.count = framesLeft f.record := by
      rcases hwhich with rfl | ⟨f, hf, hshows, rfl⟩
      · exact Or.inl ⟨rfl, rfl, rfl⟩
      · rw [take_of_shows hshows]
        exact Or.inr ⟨f, (hsame f).mpr ⟨hf, hshows⟩, rfl, rfl, rfl⟩
    simp only [RankBefore, Survey.rank, FrameRecord.rank, surveyRank] at hrecord hranks
    refine ⟨hfields, ?_, by omega, fun f hf => ?_, ?_, ⟨fun hrun => ?_, ?_⟩, fun hk hp => ?_,
      fun f hf hk hp => ?_, hone⟩
    · exact hone.imp (fun h => h.1.symm) fun ⟨f, hf, hk, _⟩ => ⟨f, hf, hk.symm⟩
    · have := (hranks f hf).2
      omega
    · cases hp : w.phase with
      | pending => exact Or.inl rfl
      | running => exact Or.inr rfl
      | _ => exact absurd hp hover
    · exact hone.imp (fun h => ⟨h.1, h.2.1.trans hrun⟩)
        fun ⟨f, hf, hk, hp, _⟩ => ⟨f, hf, hk, hp.trans hrun⟩
    · rintro (⟨hk, hp⟩ | ⟨f, hf, hk, hp⟩)
      · by_contra hnot
        simp [hk, hp, hnot] at hrecord
      · have hrank := (hranks f hf).2
        by_contra hnot
        simp [hk, hp, hnot] at hrank
    · simpa only [hk, hp, lt_irrefl, true_and, false_or, not_lt] using hrecord
    · have hrank := (hranks f hf).2
      change w.count ≤ framesLeft f.record
      simpa only [hk, hp, lt_irrefl, true_and, false_or, not_lt] using hrank

end Sys2Proof.Proofs
end

section
/-! PROOFS. The MAINS line and the supply monitor's entry and exit (O42, O43, O44). -/

namespace Sys2Proof.Machine
open Sys2Proof.Safety

/-! ### What a derivation leaves, with the facts in agreement before it -/

/-- The demand is 0 and no window is open where the condition has no output (R6, R13). -/
theorem silent_of_no_output {s : State} (h : StationOk s)
    (houtput : s.supervisor.condition.output = false) :
    s.pins.demand = 0 ∧ s.pins.offmark = false := by
  obtain ⟨_, hwindow, hpins⟩ := h
  refine ⟨by rw [hpins]; exact pinsNow_demand_zero s (.inr (.inl houtput)), ?_⟩
  have hclosed : s.timer.window ≠ .opened := fun hopen => by simp [houtput] at hwindow; exact hwindow hopen
  rw [hpins]
  unfold pinsNow
  split <;> simp [hclosed]

/-- The pins that a state's facts give stand through a drive. -/
theorem drive_of_pins {s : State} (h : s.pins = pinsNow s) : drive s = s := by
  unfold drive
  rw [← h]
  rfl

/-! ### MAINS_CHANGE (R162) -/

/-- The MAINS level taken at its unit of the millisecond, before the condition is derived. -/
def mainsTaken (present : Bool) (unit : Nat) (s : State) : State :=
  (runToUnit unit s).setSupervisor { s.supervisor with mains := present }

/-- The condition that a MAINS change leaves (R162). -/
def mainsCondition (present : Bool) (s : State) : Condition :=
  conditionOf s.config.isSome { s.supervisor with mains := present }

theorem exec_mainsChange {present : Bool} {unit : Nat} {s : State} (h : s.held = false) :
    exec (.mainsChange present unit) s = .next (drive (derive (mainsTaken present unit s))) := by
  simp [exec, execMainsChange, h, takeMains, mainsTaken]

@[simp] theorem mainsTaken_fields (present : Bool) (unit : Nat) (s : State) :
    (mainsTaken present unit s).held = s.held ∧ (mainsTaken present unit s).load = s.load ∧
      (mainsTaken present unit s).lines = s.lines ∧ (mainsTaken present unit s).bus = s.bus ∧
      (mainsTaken present unit s).wire = s.wire ∧
      (mainsTaken present unit s).config = s.config ∧
      (mainsTaken present unit s).front = s.front ∧
      (mainsTaken present unit s).correlator = s.correlator ∧
      (mainsTaken present unit s).table = s.table ∧
      (mainsTaken present unit s).frames = s.frames ∧
      (mainsTaken present unit s).agreement = s.agreement ∧
      (mainsTaken present unit s).regulation = s.regulation ∧
      (mainsTaken present unit s).survey = s.survey ∧
      (mainsTaken present unit s).capture = s.capture ∧
      (mainsTaken present unit s).supervisor = { s.supervisor with mains := present } ∧
      (mainsTaken present unit s).service = s.service ∧
      (mainsTaken present unit s).freeCount = s.freeCount ∧
      (mainsTaken present unit s).pending = s.pending ∧
      (mainsTaken present unit s).timer = { s.timer with phase := unitPhase unit s } ∧
      (mainsTaken present unit s).edge =
        (if unitPhase unit s = s.timer.phase then s.edge else none) ∧
      (mainsTaken present unit s).keying.keyed = s.keying.keyed := by
  simp [mainsTaken, runToUnit_within]

theorem conditionOf_samples {loaded : Bool} {u : Supervisor} (hloaded : loaded = true)
    (hfault : u.faultCause = none) (hbrown : u.brownout = false) :
    (conditionOf loaded u).samples = true := by
  simp only [conditionOf, hloaded, hfault, hbrown, Option.isSome_none, Bool.not_true,
    Bool.false_eq_true, if_false]
  split_ifs <;> rfl

/-- A MAINS change moves the condition only from one that samples to one that samples, after the load and with
neither a fault cause nor the brownout flag (R152, R162). -/
theorem samples_of_mainsCondition_ne {present : Bool} {s : State}
    (h : mainsCondition present s ≠ conditionOf s.config.isSome s.supervisor) :
    (mainsCondition present s).samples = true ∧
      (conditionOf s.config.isSome s.supervisor).samples = true ∧
      s.config.isSome = true ∧ s.supervisor.faultCause = none ∧ s.supervisor.brownout = false := by
  unfold mainsCondition at *
  have hfault : s.supervisor.faultCause = none := by
    by_contra hf
    exact h (by simp [conditionOf, Option.isSome_iff_ne_none, hf])
  have hloaded : s.config.isSome = true := by
    by_contra hl
    exact h (by simp [conditionOf, hl])
  have hbrown : s.supervisor.brownout = false := by
    by_contra hb
    exact h (by simp [conditionOf, hb])
  exact ⟨conditionOf_samples hloaded hfault hbrown, conditionOf_samples hloaded hfault hbrown,
    hloaded, hfault, hbrown⟩

theorem derive_eq_setCondition {s : State} {x : Condition}
    (hx : conditionOf s.config.isSome s.supervisor = x) : derive s = setCondition x s := by
  rw [derive, hx]

/-- Between two conditions that sample the front end keeps all but the interval of a window cut short (R25, R31). -/
theorem setCondition_front_of_both_sample {s : State} {x : Condition}
    (hsamples : x ≠ s.supervisor.condition →
      x.samples = true ∧ s.supervisor.condition.samples = true) :
    (setCondition x s).front =
        { s.front with
          offSum := (setCondition x s).front.offSum, offCount := (setCondition x s).front.offCount } := by
  rw [setCondition_front]
  split
  · rfl
  · next hne =>
    obtain ⟨hto, hfrom⟩ := hsamples hne
    simp [hto, hfrom]

/-- An open window that loses its output is cut short with its unfinished interval (R6, R25). -/
theorem setCondition_window_cut {s : State} {x : Condition} (hopen : s.timer.window = .opened)
    (houtput : s.supervisor.condition.output = true) (hx : x.output = false) :
    (setCondition x s).timer.window = .cutShort ∧ (setCondition x s).front.offSum = 0 ∧
      (setCondition x s).front.offCount = 0 := by
  have hne : x ≠ s.supervisor.condition := by
    rintro rfl
    rw [houtput] at hx
    cases hx
  rw [setCondition_timer_eq, setCondition_front, if_neg hne]
  simp [hne, hopen, hx]

/-- A window that is not open, or keeps its output, stands with its interval. -/
theorem setCondition_window_kept {s : State} {x : Condition}
    (hstands : s.timer.window ≠ .opened ∨ x.output = true) :
    (setCondition x s).timer.window = s.timer.window ∧
      (setCondition x s).front.offSum = s.front.offSum ∧
      (setCondition x s).front.offCount = s.front.offCount := by
  have hcut : ¬(s.timer.window = .opened ∧ x.output = false) := by
    rintro ⟨hopen, hout⟩
    rcases hstands with h | h
    · exact h hopen
    · rw [hout] at h
      cases h
  rw [setCondition_timer_eq, setCondition_front, if_neg fun h => hcut h.2]
  split <;> simp

/-! ### BROWNOUT_ENTRY and BROWNOUT_EXIT (R164, R165) -/

theorem runTaken_iff {run : Nat} {s : State} :
    runTaken run s = true ↔ run = 100 ∧ s.ms < min (s.timer.length / 20) 1280 := by
  simp [runTaken, lastSampleTaken, State.ms]

theorem edgeMean_iff {test : Nat → Bool} {s : State} :
    edgeMean test s = true ↔ ∃ g m, s.edge = some g ∧ g.meanS = some m ∧ test m = true := by
  unfold edgeMean
  cases s.edge with
  | none => simp
  | some g => cases hm : g.meanS <;> simp [hm]

theorem conditionOf_of_fault {loaded : Bool} {u : Supervisor} (h : u.faultCause ≠ none) :
    conditionOf loaded u = .fault := by
  simp [conditionOf, Option.isSome_iff_ne_none, h]

/-- The condition that a BROWNOUT exit leaves, the working mark being clear since the entry (R152, R164). -/
theorem conditionOf_brownoutLeft {s : State} {c : Settings} (hc : s.config = some c)
    (hfault : s.supervisor.faultCause = none) (hworking : s.supervisor.working = false) :
    conditionOf (brownoutLeft s).config.isSome (brownoutLeft s).supervisor =
      if s.supervisor.mains then .acquiring else .dark := by
  cases hm : s.supervisor.mains <;> simp [conditionOf, hc, hfault, hworking, hm]

end Sys2Proof.Machine

namespace Sys2Proof.Proofs
open Sys2Proof.Machine Sys2Proof.Safety

/-- Settles O42: while a reset holds the device nothing is derived, and else the level moves the condition between
DARK and the conditions that work. -/
theorem mainsDarkensAndReturns : Obligations.MainsDarkensAndReturns := by
  refine ⟨fun present unit s hheld hconfig hok => ?_, fun present unit s hheld hok => ?_⟩
  · obtain ⟨hagrees, _, hpins⟩ := hok
    have hstands : derive (s.setSupervisor { s.supervisor with mains := present }) =
        s.setSupervisor { s.supervisor with mains := present } := by
      refine derive_of_agrees ?_
      simp only [State.setSupervisor_fields, hagrees, hconfig]
      simp [conditionOf]
    simp only [exec, execMainsChange, hheld, if_true, takeMains, hstands]
    rw [drive_of_pins]
    · simp [State.eq_iff_fields, hheld]
    · simp [hpins, pinsNow, hheld]
  · obtain ⟨hagrees, hwindow, -⟩ := hok
    have hsamples := fun h => samples_of_mainsCondition_ne (present := present) (s := s) h
    rw [← hagrees] at hsamples
    have hderive : derive (mainsTaken present unit s) =
        setCondition (mainsCondition present s) (mainsTaken present unit s) :=
      derive_eq_setCondition (by simp [mainsCondition])
    obtain ⟨htimer, hphase, hedge, hkeying, -⟩ := unitEnd_time unit (s := s)
      (x := mainsTaken present unit s) rfl rfl rfl
    have hstation : StationOk (drive (derive (mainsTaken present unit s))) :=
      stationOk_drive (factsAgree_derive (by simpa using hwindow))
    rw [exec_mainsChange hheld]
    rw [hderive] at htimer hphase hedge hkeying hstation ⊢
    have hmains : (drive (setCondition (mainsCondition present s)
        (mainsTaken present unit s))).supervisor.condition = mainsCondition present s := by simp
    refine ⟨_, rfl, by simp [setCondition_supervisor], ?_, by simp [State.eq_iff_fields], ?_, ?_, hedge,
      htimer, hphase, hkeying, fun hloaded hfault hbrown => ⟨fun hp => ?_, fun hp => ?_⟩, ?_, ?_, ?_,
      ?_, ?_⟩
    · by_cases hacq : mainsCondition present s = .acquiring <;>
        simp [setCondition_supervisor, hacq, eq_comm (a := Condition.acquiring)]
    · by_cases hdark : mainsCondition present s = .dark <;>
        simp [setCondition_correlator, hdark, eq_comm (a := Condition.dark)]
    · simpa using setCondition_front_of_both_sample (s := mainsTaken present unit s)
        (x := mainsCondition present s) fun h =>
          ⟨(hsamples (by simpa using h)).1, by simpa using (hsamples (by simpa using h)).2.1⟩
    · have hdark : (drive (setCondition (mainsCondition present s)
          (mainsTaken present unit s))).supervisor.condition = .dark := by
        rw [hmains]
        simp [mainsCondition, conditionOf, hloaded, hfault, hbrown, hp]
      exact ⟨hdark, silent_of_no_output hstation (by rw [hdark]; rfl)⟩
    · rw [hmains]
      simp only [mainsCondition, conditionOf, hloaded, hfault, hbrown, hp]
      simp
    · intro hover
      rw [hmains]
      by_contra hne
      obtain ⟨_, _, hloaded, hfault, hbrown⟩ := hsamples hne
      rcases hover with h | h | h
      · simp [h] at hloaded
      · exact h hfault
      · rw [hbrown] at h
        cases h
    · intro hopen hout
      simpa using setCondition_window_cut (s := mainsTaken present unit s) (by simpa using hopen)
        (by simpa using hwindow hopen) (by simpa using hout)
    · intro hstands
      simpa using setCondition_window_kept (s := mainsTaken present unit s) (by simpa using hstands)
    · intro hne
      rw [hmains] at hne ⊢
      simp only [drive_fields, setCondition_timer, setCondition_keying, mainsTaken_fields, keyedAfter]
      rw [if_neg hne]
      refine ⟨fun hpos hspan => ?_, fun hzero hsome => ?_⟩
      · simp [hspan, Nat.pos_iff_ne_zero.mp hpos]
      · have hsame : unitPhase unit s = s.timer.phase := by
          have : s.timer.phase ≤ unitPhase unit s := le_max_left _ _
          omega
        rw [if_pos (by simp [hzero, hsome, ← hsame])]
    · intro hstands
      rw [hmains] at hstands
      simp only [drive_fields, setCondition_timer, setCondition_keying, mainsTaken_fields,
        keyedAfter] at hstands ⊢
      rcases hstands with hlate | hsame
      · split
        · rfl
        · rw [if_neg (by simp; omega), if_neg (by omega)]
      · rw [if_pos hsame]

/-- Settles O43: under FAULT the condition is held and the pins show the alarm; else BROWNOUT is derived. -/
theorem brownoutEntrySilences : Obligations.BrownoutEntrySilences := by
  intro c s hok hheld hc hbrown hdue
  have hentry : brownoutEntryDue s = true := by
    unfold brownoutEntryDue
    simp only [hheld, hc, hbrown, Bool.not_false, Option.isSome_some, Bool.true_and,
      Bool.or_eq_true, runTaken_iff, edgeMean_iff, decide_eq_true_eq]
    exact hdue
  obtain ⟨hagrees, hwindow, hpins⟩ := hok
  rw [exec_brownoutEntry hentry]
  refine ⟨fun hfault => ?_, fun hfault => ?_⟩
  · have hstands : derive (brownoutEntered s) = brownoutEntered s := by
      refine derive_of_agrees ?_
      simp only [brownoutEntered_fields, enterBrownout, hagrees]
      rw [conditionOf_of_fault hfault, conditionOf_of_fault (by simpa using hfault)]
    rw [hstands]
    congr 1
    rw [State.eq_iff_fields]
    simp [enterBrownout, Option.isSome_iff_ne_none, hfault, hpins, pinsNow, hheld, Alarms.any,
      demandNow, State.ms, txdNow]
  · have hderive : derive (brownoutEntered s) = setCondition .brownout (brownoutEntered s) :=
      derive_eq_setCondition (by simp [conditionOf, enterBrownout, hc, hfault])
    have hne : Condition.brownout ≠ (enterBrownout s.supervisor).condition := by
      have hsamples : s.supervisor.condition.samples = true := by
        rw [hagrees]
        exact conditionOf_samples (by simp [hc]) hfault hbrown
      intro h
      rw [show s.supervisor.condition = .brownout from h.symm] at hsamples
      cases hsamples
    have hstation : StationOk (drive (derive (brownoutEntered s))) :=
      stationOk_drive (factsAgree_derive (by simpa [enterBrownout] using hwindow))
    rw [hderive] at hstation ⊢
    obtain ⟨hdemand, hmark⟩ := silent_of_no_output hstation (by simp [Condition.output])
    refine ⟨_, rfl, by simp, ?_, by simp [hfault], ?_, by simp [State.eq_iff_fields], ?_, ?_, ?_, ?_, ?_,
      by simp, hdemand, hmark, ?_, by simp, by simp, by simp, by simp, by simp, by simp, by simp⟩
    · simp [setCondition_supervisor, enterBrownout]
    · simp [setCondition_correlator, hfault]
    · simp [setCondition_front, hne, Condition.samples, Condition.output]
    · simp [setCondition_keying]
    · intro hspan
      simp [setCondition_keying, hne, keyedAfter, hspan, Condition.output]
    · intro hlate
      have hlate' : ¬ s.timer.phase < 19200 := by omega
      have hpos : s.timer.phase ≠ 0 := by omega
      simp [setCondition_keying, keyedAfter, hlate', hpos]
    · simp [setCondition_timer_eq, hne, Condition.output]
    · simp [pinsNow, hheld, setCondition_supervisor, enterBrownout, Alarms.any]

/-- Settles O44: under FAULT only the flag and the runs clear; else ACQUIRING or DARK is derived from BROWNOUT. -/
theorem brownoutExitRelocks : Obligations.BrownoutExitRelocks := by
  intro c s hheld hc hbrown hdue
  have hexit : brownoutExitDue s = true := by
    unfold brownoutExitDue
    simp only [hheld, hc, hbrown, Bool.not_false, Option.isSome_some, Bool.true_and,
      Bool.or_eq_true, runTaken_iff, edgeMean_iff, decide_eq_true_eq]
    exact hdue
  rw [exec_brownoutExit hexit]
  refine ⟨fun hfault hok => ?_, fun hfault hworking => ?_⟩
  · obtain ⟨hagrees, hwindow, hpins⟩ := hok
    have hstands : derive (brownoutLeft s) = brownoutLeft s := by
      refine derive_of_agrees ?_
      simp only [brownoutLeft_fields, hagrees]
      rw [conditionOf_of_fault hfault, conditionOf_of_fault (by simpa using hfault)]
    rw [hstands]
    congr 1
    rw [State.eq_iff_fields]
    simp [Option.isSome_iff_ne_none, hfault, hpins, pinsNow, hheld, Alarms.any, demandNow, State.ms,
      txdNow]
  · rw [derive_eq_setCondition (conditionOf_brownoutLeft hc hfault hworking)]
    refine ⟨_, rfl, by simp [setCondition_supervisor], by simp [hfault], by simp,
      by simp [State.eq_iff_fields], fun hold => ⟨?_, ?_, ?_, fun hbroken hclosed => ⟨?_, ?_⟩⟩⟩
    · cases hm : s.supervisor.mains <;> simp [setCondition_supervisor, hold, hm]
    · cases hm : s.supervisor.mains <;> simp [setCondition_correlator, hold, hm]
    · cases hm : s.supervisor.mains <;>
        simp [setCondition_keying, hold, hm, keyedAfter, Condition.output]
    · simp [setCondition_timer_eq, hclosed]
    · cases hm : s.supervisor.mains <;>
        simp [setCondition_front, hold, hm, Condition.samples, hbroken, hclosed]

end Sys2Proof.Proofs
end

section
/-! PROOFS. The service line: characters, lines and commands (O45 to O51). -/

namespace Sys2Proof.Machine
open Sys2Proof.Safety

/-! ### The words of a line and its arguments (R172) -/

theorem wordsOf_nil : wordsOf [] = [] := by
  simp [wordsOf, List.splitOn]

theorem wordsOf_space_cons (line : Text) : wordsOf (' ' :: line) = wordsOf line := by
  have hsplit := List.splitOnP_append_cons (p := fun x => x == ' ') [] line (sep := ' ') (by simp)
  simp only [List.nil_append] at hsplit
  simp [wordsOf, List.splitOn, hsplit]

theorem splitOn_of_no_space {w : Text} (h : ' ' ∉ w) : w.splitOn ' ' = [w] :=
  List.splitOnP_eq_singleton fun x hx => by
    simpa using ne_of_mem_of_not_mem hx h

theorem wordsOf_word {w : Text} (hne : w ≠ []) (h : ' ' ∉ w) : wordsOf w = [w] := by
  simp [wordsOf, splitOn_of_no_space h, hne]

theorem wordsOf_word_append {w : Text} (hne : w ≠ []) (h : ' ' ∉ w) (line : Text) :
    wordsOf (w ++ ' ' :: line) = w :: wordsOf line := by
  have hsplit : (w ++ ' ' :: line).splitOn ' ' = w.splitOn ' ' ++ line.splitOn ' ' :=
    List.splitOnP_append_cons w line (by simp)
  simp [wordsOf, hsplit, splitOn_of_no_space h, hne]

/-- Digits read from the left are the digits of the reversed list (R172). -/
theorem foldl_digits (w : Text) (acc : Nat) :
    w.foldl (fun acc ch => 10 * acc + (ch.toNat - 48)) acc =
      Nat.ofDigits 10 ((w.reverse.map fun ch => ch.toNat - 48) ++ [acc]) := by
  induction w generalizing acc with
  | nil => simp
  | cons ch w ih =>
    rw [List.foldl_cons, ih]
    simp only [List.reverse_cons, List.map_append, List.map_cons, List.map_nil, List.append_assoc,
      List.cons_append, List.nil_append]
    rw [Nat.ofDigits_append, Nat.ofDigits_append]
    congr 2
    simp [Nat.ofDigits_cons]
    ring

theorem numberOf_eq_some_iff {w : Text} {n : Nat} :
    numberOf w = some n ↔ w ≠ [] ∧ (∀ ch ∈ w, 48 ≤ ch.toNat ∧ ch.toNat ≤ 57) ∧
      n = Nat.ofDigits 10 (w.reverse.map fun ch => ch.toNat - 48) := by
  have hdigits : (!w.isEmpty && w.all (fun ch => '0' ≤ ch && ch ≤ '9')) = true ↔
      w ≠ [] ∧ ∀ ch ∈ w, 48 ≤ ch.toNat ∧ ch.toNat ≤ 57 := by
    simp only [Bool.and_eq_true, Bool.not_eq_true', List.isEmpty_eq_false_iff, List.all_eq_true,
      decide_eq_true_eq]
    rfl
  have hvalue : w.foldl (fun acc ch => 10 * acc + (ch.toNat - 48)) 0 =
      Nat.ofDigits 10 (w.reverse.map fun ch => ch.toNat - 48) := by
    rw [foldl_digits, Nat.ofDigits_append_zero]
  unfold numberOf
  rw [hvalue]
  by_cases h : (!w.isEmpty && w.all (fun ch => '0' ≤ ch && ch ≤ '9')) = true
  · obtain ⟨hne, hall⟩ := hdigits.mp h
    rw [if_pos h]
    simp only [Option.some.injEq, hne, ne_eq, not_false_eq_true, true_and]
    exact ⟨fun hn => ⟨hall, hn.symm⟩, fun hn => hn.2.symm⟩
  · rw [if_neg h]
    simp only [reduceCtorEq, false_iff]
    exact fun hn => h (hdigits.mpr ⟨hn.1, hn.2.1⟩)

theorem lookup_cons_eq_ite {α β : Type} [DecidableEq α] [BEq α] [LawfulBEq α] (k a : α) (b : β)
    (table : List (α × β)) :
    ((a, b) :: table).lookup k = if k = a then some b else table.lookup k := by
  by_cases h : k = a
  · simp [List.lookup, h]
  · have hbeq : (k == a) = false := by simpa using h
    simp [List.lookup, h, hbeq]

/-- A list of keys and values, no key twice, gives a key exactly the value it is listed with. -/
theorem lookup_eq_some_iff {α β : Type} [DecidableEq α] [BEq α] [LawfulBEq α] {k : α}
    {b : β} {table : List (α × β)}
    (hnodup : (table.map Prod.fst).Nodup) : table.lookup k = some b ↔ (k, b) ∈ table := by
  induction table with
  | nil => simp
  | cons x xs ih =>
    obtain ⟨a, c⟩ := x
    obtain ⟨hnot, hrest⟩ := List.nodup_cons.mp hnodup
    rw [lookup_cons_eq_ite]
    by_cases hka : k = a
    · subst hka
      have hno : (k, b) ∉ xs := fun h => hnot (List.mem_map.mpr ⟨_, h, rfl⟩)
      simp [hno, eq_comm]
    · simp [hka, ih hrest]

/-- The kinds a SURVEY command can name (R172). -/
def kindTable : List (Text × SurveyKind) :=
  [("INTERRUPT".toList, .interrupt), ("DEPOLARIZE".toList, .depolarize),
    ("FREEZE".toList, .freeze), ("NONE".toList, .none)]

theorem kindOf_eq_lookup (w : Text) : kindOf w = kindTable.lookup w := by
  simp only [kindOf, kindTable, lookup_cons_eq_ite, List.lookup_nil]

theorem kindOf_eq_some_iff {w : Text} {k : SurveyKind} :
    kindOf w = some k ↔ (w, k) ∈ kindTable := by
  rw [kindOf_eq_lookup, lookup_eq_some_iff (by decide)]

/-- The commands of one word (R172). -/
def wordTable : List (Text × ServiceCommand) :=
  [("STATUS".toList, .status), ("TABLE".toList, .table), ("HOLD".toList, .hold),
    ("FREE".toList, .free), ("CLEAR".toList, .clear), ("RESTART".toList, .restart)]

theorem commandOf_word (w : Text) : commandOf [w] = wordTable.lookup w := by
  simp only [commandOf, wordTable, lookup_cons_eq_ite, List.lookup_nil]

theorem commandOf_word_eq_some_iff {w : Text} {k : ServiceCommand} :
    commandOf [w] = some k ↔ (w, k) ∈ wordTable := by
  rw [commandOf_word, lookup_eq_some_iff (by decide)]

theorem commandOf_pair_eq_some_iff {w a : Text} {k : ServiceCommand} :
    commandOf [w, a] = some k ↔ w = "CAPT".toList ∧ ∃ n, numberOf a = some n ∧ k = .capt n := by
  unfold commandOf
  by_cases hw : w = "CAPT".toList
  · simp only [hw, if_true, Option.map_eq_some_iff, true_and]
    exact exists_congr fun n => and_congr_right fun _ => eq_comm
  · simp only [hw, if_false, false_and, reduceCtorEq]

theorem commandOf_triple_eq_some_iff {w a b : Text} {k : ServiceCommand} :
    commandOf [w, a, b] = some k ↔ w = "SURVEY".toList ∧
      ∃ kind n, kindOf a = some kind ∧ numberOf b = some n ∧ k = .survey kind n := by
  unfold commandOf
  by_cases hw : w = "SURVEY".toList
  · cases hk : kindOf a <;> cases hn : numberOf b <;> simp [hw, hk, hn, eq_comm]
  · simp only [hw, if_false, false_and, reduceCtorEq]

/-! ### The pins after an event of the service line -/

/-- The transmit line of a service line (R170, R182). -/
def lineOf (v : Service) : TxLine :=
  match v.reply with
  | some r => .sending (wireText r.lines)
  | none => .high

/-- An event of the service line drives no pin but ALM, by the alarms left latched, and the transmit line. -/
theorem drive_served {request : Option HoldRequest} {alarms : Alarms}
    {origination : Option (SurveyKind × Nat)} {n : Nat} {service : Service} {s : State}
    (hheld : s.held = false) (hpins : s.pins = pinsNow s) :
    drive (served request alarms origination n service s) =
      { served request alarms origination n service s with
        pins := { s.pins with alm := alarms.any, txd := lineOf service } } := by
  rw [hpins]
  simp only [drive, State.setPins, served, pinsNow, hheld]
  rfl

theorem alm_of_pins {s : State} (hheld : s.held = false) (hpins : s.pins = pinsNow s) :
    s.pins.alm = s.supervisor.alarms.any := by
  rw [hpins]
  simp [pinsNow, hheld]

theorem serviceReady_iff {s : State} :
    serviceReady s = true ↔
      s.held = false ∧ s.service.reply = none ∧ s.service.pendingRestart = false := by
  simp [serviceReady, and_assoc]

/-- An event that leaves the alarms as they are drives the transmit line alone. -/
theorem drive_served_same_alarms {request : Option HoldRequest}
    {origination : Option (SurveyKind × Nat)} {n : Nat} {service : Service} {s : State}
    (hheld : s.held = false) (hpins : s.pins = pinsNow s) :
    drive (served request s.supervisor.alarms origination n service s) =
      { served request s.supervisor.alarms origination n service s with
        pins := { s.pins with txd := lineOf service } } := by
  rw [drive_served hheld hpins, ← alm_of_pins hheld hpins]

/-- A service line still without a reply drives nothing. -/
theorem drive_setService_of_no_reply {service : Service} {s : State} (hready : serviceReady s = true)
    (hpins : s.pins = pinsNow s) (hreply : service.reply = none) :
    drive (s.setService service) = s.setService service := by
  obtain ⟨hheld, hnone, _⟩ := serviceReady_iff.mp hready
  refine drive_of_pins ?_
  simp only [State.setService_fields]
  rw [hpins]
  simp only [pinsNow, hheld, txdNow, hnone, hreply, State.setService_fields]
  rfl

/-- A short reply to a line that is taken: nothing but the service line and the transmit line changes. -/
theorem drive_beginReply {lines : List Text} {s : State} (hheld : s.held = false)
    (hpins : s.pins = pinsNow s) : drive (beginReply lines (clearLine s)) = replying lines s := by
  have hserved : beginReply lines (clearLine s) =
      served s.supervisor.pendingHold s.supervisor.alarms s.survey.origination 0 (answered lines s) s :=
    rfl
  rw [hserved, drive_served_same_alarms hheld hpins]
  rfl

/-! ### Characters and command events -/

theorem exec_rowOf (k : ServiceCommand) (s : State) : exec (rowOf k) s = .next (commandEvent k s) := by
  cases k <;> rfl

theorem exec_rowOf_of_ready {k : ServiceCommand} {s : State} (h : serviceReady s = true) :
    exec (rowOf k) s = .next (drive (runCommand k (clearLine s))) := by
  rw [exec_rowOf, commandEvent, if_pos h]

theorem exec_characterReceived_of_ready {byte : Byte} {stop : Bool} {s : State}
    (h : serviceReady s = true) :
    exec (.characterReceived byte stop) s = .next (drive (takeCharacter byte stop s)) := by
  simp [exec, execCharacterReceived, h]

/-- An accepted command's row of the table (R173). -/
theorem exec_rowOf_of_accepted {k : ServiceCommand} {s : State} (h : serviceReady s = true)
    (hrange : k.inRange = true) (hcondition : k.refusedIn s.supervisor.condition = false) :
    exec (rowOf k) s = .next (drive (accept k (clearLine s))) := by
  rw [exec_rowOf_of_ready h]
  simp [runCommand, hrange, hcondition]

theorem runCommand_of_out_of_range {k : ServiceCommand} {s : State} (h : k.inRange = false) :
    runCommand k s = beginReply [errLine] s := by
  simp [runCommand, h]

theorem runCommand_of_refused {k : ServiceCommand} {s : State} (hrange : k.inRange = true)
    (hcondition : k.refusedIn s.supervisor.condition = true) :
    runCommand k s = beginReply [stateLine] s := by
  simp [runCommand, hrange, hcondition]

/-! ### The texts of the lines (R182) -/

theorem plainText_of_nonneg {x : Int} (h : 0 ≤ x) : plainText x = numberText x.natAbs := by
  simp [plainText, not_lt.mpr h]

/-- Names chosen by a mark, filtered and mapped at once. -/
theorem filterMap_marked {α β : Type} (f : α → β) (xs : List (Bool × α)) :
    xs.filterMap (fun (marked, x) => if marked then some (f x) else none) =
      (xs.filter Prod.fst).map fun x => f x.2 := by
  induction xs with
  | nil => rfl
  | cons x xs ih =>
    obtain ⟨marked, a⟩ := x
    cases marked <;> simpa using ih

/-- The alarms with their names, in their order (R151, log 18). -/
def alarmTable (a : Alarms) : List (Bool × String) :=
  [(a.floor, "FLOOR"), (a.ilimit, "ILIMIT"), (a.vlimit, "VLIMIT"), (a.noself, "NOSELF"),
    (a.stage, "STAGE"), (a.supply, "SUPPLY"), (a.table, "TABLE"), (a.capdrop, "CAPDROP")]

theorem alarmNames_eq (a : Alarms) :
    alarmNames a = ((alarmTable a).filter Prod.fst).map fun x => x.2.toList :=
  filterMap_marked String.toList (alarmTable a)

theorem alarmNames_eq_nil_iff (a : Alarms) : alarmNames a = [] ↔ a.any = false := by
  rw [alarmNames_eq, List.map_eq_nil_iff, List.filter_eq_nil_iff]
  simp [alarmTable, Alarms.any, and_assoc]

theorem alarmsText_eq (a : Alarms) :
    alarmsText a =
      if alarmNames a = [] then "NONE".toList else [','].intercalate (alarmNames a) := by
  simp only [alarmsText, alarmNames_eq_nil_iff]
  cases a.any <;> rfl

end Sys2Proof.Machine

namespace Sys2Proof.Proofs
open Sys2Proof.Machine Sys2Proof.Safety

/-- Settles O45: no character but a carriage return begins a reply, so only the buffer and its marks change. -/
theorem charactersFillBuffer : Obligations.CharactersFillBuffer := by
  intro b s hready hpins
  have hnone := (serviceReady_iff.mp hready).2.1
  have hdrive : ∀ service : Service, service.reply = none →
      drive (s.setService service) = s.setService service :=
    fun service => drive_setService_of_no_reply hready hpins
  have hstore : ∀ byte : Byte, byte ≠ 0x0D#8 → byte ≠ 0x0A#8 →
      exec (.characterReceived byte true) s =
        .next (s.setService (storeCharacter byte s.service)) := by
    intro byte hcr hlf
    rw [exec_characterReceived_of_ready hready]
    simp only [takeCharacter, Bool.not_true, Bool.false_eq_true, if_false, hcr, hlf]
    rw [hdrive _ (by unfold storeCharacter; split_ifs <;> exact hnone)]
  refine ⟨?_, ?_, fun hcr hlf => ⟨fun hroom hlength => ?_, fun hroom hlength => ?_, fun hlong => ?_⟩⟩
  · rw [exec_characterReceived_of_ready hready]
    simp only [takeCharacter, Bool.not_false, if_true]
    rw [hdrive { s.service with badCharacter := true } hnone]
    rfl
  · rw [exec_characterReceived_of_ready hready]
    have hstands : takeCharacter 0x0A#8 true s = s := by simp [takeCharacter]
    rw [hstands, drive_of_pins hpins]
  · rw [hstore b hcr hlf]
    simp only [storeCharacter, hroom, Bool.false_eq_true, if_false, if_pos hlength]
    rfl
  · rw [hstore b hcr hlf]
    simp only [storeCharacter, hroom, Bool.false_eq_true, if_false, if_neg (not_lt.mpr hlength)]
    rfl
  · rw [hstore b hcr hlf]
    simp only [storeCharacter, hlong, if_true]
    rfl

/-- Settles O46: the words are the split at spaces without its empty parts, and a completed line takes the one branch
that its marks and its words choose. -/
theorem carriageReturnTakesLine : Obligations.CarriageReturnTakesLine := by
  refine ⟨⟨wordsOf_nil, wordsOf_space_cons, fun w hne hw =>
    ⟨wordsOf_word hne hw, wordsOf_word_append hne hw⟩⟩, fun w n => numberOf_eq_some_iff,
    fun w k => kindOf_eq_some_iff, fun words k => ?_, ?_⟩
  · match words with
    | [] => simp [commandOf]
    | [w] =>
      rw [commandOf_word_eq_some_iff]
      simp [wordTable]
    | [w, a] =>
      rw [commandOf_pair_eq_some_iff]
      simp [and_assoc]
    | [w, a, b] =>
      rw [commandOf_triple_eq_some_iff]
      simp [and_assoc]
    | w :: a :: b :: c :: rest => simp [commandOf]
  · rintro s words hready hpins rfl
    have hheld := (serviceReady_iff.mp hready).1
    have htaken : exec (.characterReceived 0x0D#8 true) s = .next (drive (completeLine s)) := by
      rw [exec_characterReceived_of_ready hready]
      simp [takeCharacter]
    rw [htaken]
    refine ⟨fun hlong => ?_, fun hshort hbad => ?_, fun hshort hgood =>
      ⟨fun hblank => ?_, fun k hk => ?_, fun hwords hno => ?_⟩⟩
    · rw [← drive_beginReply hheld hpins]
      simp [completeLine, hlong, longLine]
    · rw [← drive_beginReply hheld hpins]
      simp [completeLine, hshort, hbad, errLine]
    · have hcleared : completeLine s = clearLine s := by
        simp [completeLine, hshort, hgood, hblank]
      have hnone := (serviceReady_iff.mp hready).2.1
      rw [hcleared, clearLine, drive_setService_of_no_reply hready hpins (by simpa using hnone)]
      simp [State.eq_iff_fields, hshort, hgood]
    · have hwords : (wordsOf (bufferText s.service.buffer)).isEmpty = false := by
        cases hw : wordsOf (bufferText s.service.buffer) with
        | nil => simp [hw, commandOf] at hk
        | cons => rfl
      rw [exec_rowOf_of_ready hready]
      simp [completeLine, hshort, hgood, hwords, hk]
    · have hsome : (wordsOf (bufferText s.service.buffer)).isEmpty = false := by simpa using hwords
      rw [← drive_beginReply hheld hpins]
      simp [completeLine, hshort, hgood, hsome, hno, errLine]

/-- Settles O47: a busy line takes nothing, and a refused command begins a short reply on the cleared line. -/
theorem refusalsHaveNoEffect : Obligations.RefusalsHaveNoEffect := by
  refine ⟨fun b stop k s hbusy => ?_, fun k s hready hpins => ⟨fun hrange => ?_, fun hcondition => ?_⟩⟩
  · have hnot : serviceReady s = false := by
      rw [← Bool.not_eq_true, serviceReady_iff]
      rintro ⟨-, hreply, hrestart⟩
      rcases hbusy with h | h
      · exact h hreply
      · rw [hrestart] at h
        cases h
    exact ⟨by simp [exec, execCharacterReceived, hnot],
      by rw [exec_rowOf, commandEvent_of_not_ready hnot]⟩
  · have hheld := (serviceReady_iff.mp hready).1
    have hout : k.inRange = false := by
      rcases hrange with ⟨n, rfl, hn⟩ | ⟨x, n, rfl, hn⟩ <;>
        simp [ServiceCommand.inRange] <;> omega
    rw [exec_rowOf_of_ready hready, runCommand_of_out_of_range hout, drive_beginReply hheld hpins]
    rfl
  · have hheld := (serviceReady_iff.mp hready).1
    have hrefused : k.inRange = true ∧ k.refusedIn (clearLine s).supervisor.condition = true := by
      simp only [clearLine_fields]
      rcases hcondition with ⟨hstarting, hk⟩ | ⟨hworks, x, n, rfl, hlow, hhigh⟩
      · rw [hstarting]
        rcases hk with rfl | rfl | rfl | rfl | rfl | ⟨n, rfl, hlow, hhigh⟩ <;>
          simp [ServiceCommand.inRange, ServiceCommand.refusedIn, *]
      · simpa [ServiceCommand.inRange, ServiceCommand.refusedIn, hlow, hhigh, and_assoc] using hworks
    rw [exec_rowOf_of_ready hready, runCommand_of_refused hrefused.1 hrefused.2,
      drive_beginReply hheld hpins]
    rfl

/-- Settles O48: STATUS begins its reply on the cleared line, and the line is its fields one by one. -/
theorem statusOnlyReports : Obligations.StatusOnlyReports := by
  refine ⟨fun s hready hpins => ?_, ?_⟩
  · have haccepted := exec_rowOf_of_accepted (k := .status) hready rfl rfl
    have hstatus : accept .status (clearLine s) = beginReply [statusLine s] (clearLine s) := rfl
    rw [hstatus, drive_beginReply (serviceReady_iff.mp hready).1 hpins] at haccepted
    refine haccepted.trans ?_
    simp [replying, wireText]
  · rintro s num signed latched rfl rfl rfl hcurrent
    have hset : optionText plainText s.regulation.setCurrent =
        (match s.regulation.setCurrent with
          | some i => Nat.toDigits 10 i.natAbs
          | none => ['-']) := by
      cases hi : s.regulation.setCurrent with
      | none => rfl
      | some i => exact plainText_of_nonneg (hcurrent i hi)
    have hcondition : conditionText s.supervisor =
        (match s.supervisor.condition, s.supervisor.faultCause with
          | .fault, some .config => "FAULT/CONFIG"
          | .fault, some .reversed => "FAULT/REVERSED"
          | .fault, none => "FAULT"
          | .starting, _ => "STARTING"
          | .acquiring, _ => "ACQUIRING"
          | .regulating, _ => "REGULATING"
          | .holding, _ => "HOLDING"
          | .survey, _ => "SURVEY"
          | .dark, _ => "DARK"
          | .brownout, _ => "BROWNOUT").toList := by
      unfold conditionText
      cases s.supervisor.condition with
      | fault =>
        cases s.supervisor.faultCause with
        | none => rfl
        | some cause => cases cause <;> rfl
      | _ => rfl
    have hlock : lockName s.agreement.lock =
        (match s.agreement.lock with
          | .unlocked => "UNLOCKED"
          | .locked => "LOCKED"
          | .solitary => "SOLITARY").toList := by
      cases s.agreement.lock <;> rfl
    have hmean : optionText signedText s.regulation.frameMean =
        (match s.regulation.frameMean with
          | some m => (if m < 0 then '-' else '+') :: Nat.toDigits 10 m.natAbs
          | none => ['-']) := by
      cases s.regulation.frameMean <;> rfl
    have hsupply : optionText numberText s.front.lastMeanS =
        (match s.front.lastMeanS with
          | some m => Nat.toDigits 10 m
          | none => ['-']) := by
      cases s.front.lastMeanS <;> rfl
    have hsurvey : surveyTexts s.survey =
        (if s.survey.valid then
          ['G' :: Nat.toDigits 10 s.survey.generation,
            (match s.survey.kind with
              | .none => "NONE"
              | .interrupt => "INTERRUPT"
              | .depolarize => "DEPOLARIZE"
              | .freeze => "FREEZE").toList,
            (match s.survey.phase with
              | .over => "NONE"
              | .pending => "PENDING"
              | .running => "RUNNING").toList,
            Nat.toDigits 10 s.survey.count]
         else [['N']]) := by
      unfold surveyTexts
      cases s.survey.kind <;> cases s.survey.phase <;> rfl
    unfold statusLine fieldsText
    rw [hset, hcondition, hlock, hmean, hsupply, hsurvey, alarmsText_eq, alarmNames_eq]
    rfl

/-- Settles O49: the records are split at n, and the line is its fields one by one. -/
theorem captTakesOldest : Obligations.CaptTakesOldest := by
  refine ⟨fun n s hready hpins hcondition hlow hhigh => ?_, ?_⟩
  · have haccepted := exec_rowOf_of_accepted (k := .capt n) hready
      (by simp [ServiceCommand.inRange, hlow, hhigh]) (by simpa [ServiceCommand.refusedIn] using hcondition)
    refine ⟨s.capture.records.take n, s.capture.records.drop n, (List.take_append_drop n _).symm,
      List.length_take, haccepted.trans ?_⟩
    have hserved : accept (.capt n) (clearLine s) =
        served s.supervisor.pendingHold s.supervisor.alarms s.survey.origination n
          (answered ((s.capture.records.take n).map captureLine ++ [okLine]) s) s := rfl
    rw [hserved, drive_served_same_alarms (serviceReady_iff.mp hready).1 hpins]
    rfl
  · rintro r num signed rfl rfl
    unfold captureLine fieldsText
    cases r.instantOff <;> rfl

/-- Settles O50: each request is left in its own field, and OK is the reply. -/
theorem requestsStayPending : Obligations.RequestsStayPending := by
  intro s hready hpins
  have hheld := (serviceReady_iff.mp hready).1
  have hok : ∀ (request : Option HoldRequest) (origination : Option (SurveyKind × Nat))
      (service : Service), service.reply = some { lines := [okLine], cursor := none } →
      drive (served request s.supervisor.alarms origination 0 service s) =
        { served request s.supervisor.alarms origination 0 service s with
          pins := { s.pins with txd := .sending (wireText [okLine]) } } := by
    intro request origination service hreply
    rw [drive_served_same_alarms hheld hpins]
    simp only [lineOf, hreply]
  refine ⟨fun hcondition => ⟨?_, ?_, ?_⟩, fun hworks kind n hlow hhigh => ?_⟩
  · refine (exec_rowOf_of_accepted (k := .hold) hready rfl
      (by simpa [ServiceCommand.refusedIn] using hcondition)).trans ?_
    exact congrArg _ (hok (some .hold) s.survey.origination (answered [okLine] s) rfl)
  · refine (exec_rowOf_of_accepted (k := .free) hready rfl
      (by simpa [ServiceCommand.refusedIn] using hcondition)).trans ?_
    exact congrArg _ (hok (some .free) s.survey.origination (answered [okLine] s) rfl)
  · refine (exec_rowOf_of_accepted (k := .restart) hready rfl
      (by simpa [ServiceCommand.refusedIn] using hcondition)).trans ?_
    exact congrArg _ (hok s.supervisor.pendingHold s.survey.origination
      { answered [okLine] s with pendingRestart := true } rfl)
  · refine (exec_rowOf_of_accepted (k := .survey kind n) hready
      (by simp [ServiceCommand.inRange, hlow, hhigh])
      (by simpa [ServiceCommand.refusedIn, or_iff_not_imp_left] using hworks)).trans ?_
    exact congrArg _ (hok s.supervisor.pendingHold (some (kind, n)) (answered [okLine] s) rfl)

/-- Settles O51: the alarms left are those whose causes stand, and the pins follow them and the reply. -/
theorem clearKeepsPresentCauses : Obligations.ClearKeepsPresentCauses := by
  intro s hready hcondition
  have hheld := (serviceReady_iff.mp hready).1
  have haccepted := exec_rowOf_of_accepted (k := .clear) hready rfl
    (by simpa [ServiceCommand.refusedIn] using hcondition)
  have hserved : accept .clear (clearLine s) =
      served s.supervisor.pendingHold (clearedAlarms s) s.survey.origination 0
        (answered [okLine] s) s := rfl
  rw [hserved] at haccepted
  refine ⟨_, haccepted, rfl, rfl, ?_, ?_⟩
  · simp [pinsNow, served, hheld]
  · simp [pinsNow, served, hheld, txdNow, answered, wireText, okLine]

end Sys2Proof.Proofs
end

section
/-! PROOFS. The reads of the entries in a row (R70 to R72): what a read makes of the table and of what hangs on it, and what
several reads and upsets make of them together. -/

namespace Sys2Proof.Machine
open Sys2Proof.Safety

/-! ### What a read of the entries reads and writes -/

/-- The part of the device that a read of the entries reads and writes: the slots and the error count of the table,
the watches, the lanes and the TABLE latch (R71, R72, R102). -/
structure Ledger where
  slots : List (Option Entry)
  errors : Nat
  watches : List (Option Nat)
  lanes : List (Option Nat)
  latched : Bool

def ledgerOf (s : State) : Ledger where
  slots := s.table.slots
  errors := s.table.errors
  watches := s.frames.watches
  lanes := s.correlator.lanes
  latched := s.supervisor.alarms.table

/-- The device with another ledger. -/
def withLedger (x : Ledger) (s : State) : State :=
  { s with
    table := { slots := x.slots, errors := x.errors }
    correlator := { s.correlator with lanes := x.lanes }
    frames := { s.frames with watches := x.watches }
    supervisor := { s.supervisor with alarms := { s.supervisor.alarms with table := x.latched } } }

theorem ledgerOf_withLedger (x : Ledger) (s : State) : ledgerOf (withLedger x s) = x := rfl

theorem withLedger_withLedger (x y : Ledger) (s : State) :
    withLedger x (withLedger y s) = withLedger x s := rfl

/-- The codes of the entries in some slots. -/
def codesIn (ks : List Nat) (slots : List (Option Entry)) : List Nat :=
  ks.filterMap fun k => (slots.getD k none).bind fun e => some e.code

/-- A ledger after an upset of some slots (log 6). -/
def Ledger.strike (struck : List Nat) (x : Ledger) : Ledger :=
  { x with slots := mapSlots (fun k e => some (Machine.strike struck k e)) x.slots }

/-- A ledger after a read of some entries (R71, R72). -/
def Ledger.read (read : Nat → Entry → Bool) (x : Ledger) : Ledger where
  slots := mapSlots (passRead read) x.slots
  errors := errorsAfter x.errors (failingSlots read x.slots).length
  watches := dropWatches (lanesOf (failingSlots read x.slots) x.slots) x.watches
  lanes := x.lanes.map fun lane =>
    lane.filter fun code => decide (code ∉ codesIn (failingSlots read x.slots) x.slots)
  latched := x.latched || decide (failingSlots read x.slots ≠ [])

theorem upsetEntries_eq_withLedger (struck : List Nat) (s : State) :
    upsetEntries struck s = withLedger ((ledgerOf s).strike struck) s := by
  have hslots := upsetEntries_slots struck s
  obtain ⟨slots, h⟩ := upsetEntries_eq struck s
  rw [h] at hslots ⊢
  dsimp only at hslots
  subst hslots
  rfl

theorem codesIn_failingSlots (read : Nat → Entry → Bool) (slots : List (Option Entry)) :
    (failingEntries read slots).map (fun f => f.1.code) = codesIn (failingSlots read slots) slots := by
  rw [failingEntries_eq, ← List.filterMap_eq_map', List.filterMap_filterMap, codesIn]
  apply List.filterMap_congr
  intro k _
  cases slots.getD k none <;> rfl

theorem checkParity_eq_withLedger (read : Nat → Entry → Bool) (s : State) :
    checkParity read s = withLedger ((ledgerOf s).read read) s := by
  have hslots := checkParity_slots read s
  have herrors := checkParity_errors read s
  have hwatches := checkParity_watches read s
  have hlanes := checkParity_lanes read s
  have hlatched := checkParity_latched read s
  rw [codesIn_failingSlots] at hlanes
  obtain ⟨table, lanes, watches, latched, h⟩ := checkParity_eq read s
  rw [h] at hslots herrors hwatches hlanes hlatched ⊢
  dsimp only at hslots herrors hwatches hlanes hlatched
  obtain ⟨slots, errors⟩ := table
  subst hslots herrors hwatches hlanes hlatched
  rfl

theorem ledgerOf_upsetEntries (struck : List Nat) (s : State) :
    ledgerOf (upsetEntries struck s) = (ledgerOf s).strike struck := by
  rw [upsetEntries_eq_withLedger, ledgerOf_withLedger]

theorem ledgerOf_checkParity (read : Nat → Entry → Bool) (s : State) :
    ledgerOf (checkParity read s) = (ledgerOf s).read read := by
  rw [checkParity_eq_withLedger, ledgerOf_withLedger]

/-! ### Reads and upsets in a row -/

theorem strike_strike (first second : List Nat) (k : Nat) (e : Entry) :
    strike second k (strike first k e) = strike (first ++ second) k e := by
  unfold strike
  by_cases hfirst : k ∈ first <;> by_cases hsecond : k ∈ second <;> simp [hfirst, hsecond]

theorem Ledger.strike_strike (first second : List Nat) (x : Ledger) :
    (x.strike first).strike second = x.strike (first ++ second) := by
  simp only [Ledger.strike, mapSlots_mapSlots, Option.bind_some, Machine.strike_strike]

/-- Two reads that find the same entries failing make the same of a ledger. -/
theorem Ledger.read_congr {x : Ledger} {r r' : Nat → Entry → Bool}
    (h : ∀ k e, x.slots[k]? = some (some e) → failsRead r k e = failsRead r' k e) :
    x.read r = x.read r' := by
  have hfailing : failingSlots r x.slots = failingSlots r' x.slots := by
    apply List.filter_congr
    intro k hk
    rw [List.getD_eq_getElem?_getD, List.getElem?_eq_getElem (List.mem_range.mp hk)]
    cases ho : x.slots[k]'(List.mem_range.mp hk) with
    | none => rfl
    | some e =>
      exact h k e (by rw [List.getElem?_eq_getElem (List.mem_range.mp hk), ho])
  have hslots : mapSlots (passRead r) x.slots = mapSlots (passRead r') x.slots :=
    mapSlots_congr fun k e hk => by rw [passRead, passRead, h k e hk]
  rw [Ledger.read, Ledger.read, hfailing, hslots]

/-- A read of entries that are all good changes nothing. -/
theorem Ledger.read_of_good {x : Ledger} {r : Nat → Entry → Bool}
    (h : ∀ k e, x.slots[k]? = some (some e) → failsRead r k e = false) : x.read r = x := by
  have hnone : failingSlots r x.slots = [] := by
    rw [List.eq_nil_iff_forall_not_mem]
    intro k hk
    obtain ⟨e, hslot, hfails⟩ := mem_failingSlots.mp hk
    rw [h k e hslot] at hfails
    cases hfails
  have hslots : mapSlots (passRead r) x.slots = x.slots :=
    mapSlots_eq_self fun k e hk => by simp [passRead, h k e hk]
  have hlanes : (x.lanes.map fun lane => lane.filter fun code => decide (code ∉ codesIn [] x.slots)) =
      x.lanes :=
    (List.map_congr_left fun lane _ => by cases lane <;> simp [codesIn, Option.filter]).trans
      (List.map_id' _)
  rw [Ledger.read, hnone, hslots, hlanes]
  simp [lanesOf, errorsAfter]

theorem nodup_failingSlots (r : Nat → Entry → Bool) (slots : List (Option Entry)) :
    (failingSlots r slots).Nodup :=
  List.nodup_range.filter _

section Absorb
variable {r r' : Nat → Entry → Bool} {struck : List Nat}

/-- The slots after a first read and an upset. -/
def readThenStruck (r : Nat → Entry → Bool) (struck : List Nat) (slots : List (Option Entry)) :
    List (Option Entry) :=
  mapSlots (fun k e => some (strike struck k e)) (mapSlots (passRead r) slots)

theorem getElem?_readThenStruck_eq_some {slots : List (Option Entry)} {k : Nat} {e' : Entry} :
    (readThenStruck r struck slots)[k]? = some (some e') ↔
      ∃ e, slots[k]? = some (some e) ∧ failsRead r k e = false ∧ strike struck k e = e' := by
  rw [readThenStruck, mapSlots_mapSlots, getElem?_mapSlots_eq_some]
  refine exists_congr fun e => and_congr_right fun _ => ?_
  unfold passRead
  cases failsRead r k e <;> simp

theorem failsRead_strike_of_failsRead {k : Nat} {e : Entry}
    (hle : ∀ k e, r k e = true → r' k (strike struck k e) = true) (h : failsRead r k e = true) :
    failsRead r' k (strike struck k e) = true := by
  simp only [failsRead, Bool.and_eq_true, Bool.not_eq_true'] at h ⊢
  exact ⟨by simp [h.1], hle k e h.2⟩

/-- A later read that covers an earlier one finds failing what the earlier did not find, and no entry twice. -/
theorem perm_failingSlots_strike (hle : ∀ k e, r k e = true → r' k (strike struck k e) = true)
    (slots : List (Option Entry)) :
    (failingSlots r slots ++ failingSlots r' (readThenStruck r struck slots)).Perm
      (failingSlots r' (mapSlots (fun k e => some (strike struck k e)) slots)) := by
  rw [List.perm_ext_iff_of_nodup]
  · intro k
    rw [List.mem_append]
    simp only [mem_failingSlots, getElem?_mapSlots_eq_some, getElem?_readThenStruck_eq_some]
    constructor
    · rintro (⟨e, hk, hfails⟩ | ⟨e', ⟨e, hk, hpass, rfl⟩, hfails⟩)
      · exact ⟨_, ⟨e, hk, rfl⟩, failsRead_strike_of_failsRead hle hfails⟩
      · exact ⟨_, ⟨e, hk, rfl⟩, hfails⟩
    · rintro ⟨e', ⟨e, hk, he⟩, hfails⟩
      obtain rfl := Option.some.inj he
      cases hfirst : failsRead r k e with
      | true => exact Or.inl ⟨e, hk, hfirst⟩
      | false => exact Or.inr ⟨_, ⟨e, hk, hfirst, rfl⟩, hfails⟩
  · refine List.nodup_append'.mpr ⟨nodup_failingSlots _ _, nodup_failingSlots _ _, fun k hk hk' => ?_⟩
    obtain ⟨e, hslot, hfails⟩ := mem_failingSlots.mp hk
    obtain ⟨e', hslot', -⟩ := mem_failingSlots.mp hk'
    obtain ⟨e₀, hslot₀, hpass, -⟩ := getElem?_readThenStruck_eq_some.mp hslot'
    cases hslot.symm.trans hslot₀
    rw [hfails] at hpass
    cases hpass
  · exact nodup_failingSlots _ _

/-- What the entries in some slots show of a field that neither a read nor an upset changes. -/
theorem filterMap_slots_congr {α : Type} {ks : List Nat} {slots slots' : List (Option Entry)}
    {φ : Entry → Option α}
    (h : ∀ k ∈ ks, (slots.getD k none).bind φ = (slots'.getD k none).bind φ) :
    (ks.filterMap fun k => (slots.getD k none).bind φ) =
      ks.filterMap fun k => (slots'.getD k none).bind φ :=
  List.filterMap_congr h

theorem getD_of_getElem? {slots : List (Option Entry)} {k : Nat} {e : Entry}
    (h : slots[k]? = some (some e)) : slots.getD k none = some e := by
  rw [List.getD_eq_getElem?_getD, h]
  rfl

theorem bind_readThenStruck {α : Type} {φ : Entry → Option α} {slots : List (Option Entry)} {k : Nat}
    (hφ : ∀ e, φ (strike struck k e) = φ e)
    (hk : k ∈ failingSlots r' (readThenStruck r struck slots)) :
    ((readThenStruck r struck slots).getD k none).bind φ = (slots.getD k none).bind φ := by
  obtain ⟨e', hslot', -⟩ := mem_failingSlots.mp hk
  obtain ⟨e, hslot, -, rfl⟩ := getElem?_readThenStruck_eq_some.mp hslot'
  rw [getD_of_getElem? hslot', getD_of_getElem? hslot]
  exact hφ e

theorem bind_mapSlots_strike {α : Type} {φ : Entry → Option α} {slots : List (Option Entry)} {k : Nat}
    (hφ : ∀ e, φ (strike struck k e) = φ e) :
    ((mapSlots (fun k e => some (strike struck k e)) slots).getD k none).bind φ =
      (slots.getD k none).bind φ := by
  rw [getD_mapSlots]
  cases slots.getD k none with
  | none => rfl
  | some e => exact hφ e

theorem mem_filterMap_perm {α : Type} {φ : Nat → Option α} {ks ks' : List Nat} (h : ks.Perm ks') (x : α) :
    x ∈ ks.filterMap φ ↔ x ∈ ks'.filterMap φ := (h.filterMap φ).mem_iff

/-- The entries that two reads in a row remove, by a field of theirs, are those that the later one alone would. -/
theorem mem_removed_iff {α : Type} {φ : Entry → Option α}
    (hφ : ∀ k e, φ (strike struck k e) = φ e)
    (hle : ∀ k e, r k e = true → r' k (strike struck k e) = true) (slots : List (Option Entry)) (x : α) :
    x ∈ ((failingSlots r slots).filterMap fun k => (slots.getD k none).bind φ) ++
        ((failingSlots r' (readThenStruck r struck slots)).filterMap fun k =>
          ((readThenStruck r struck slots).getD k none).bind φ) ↔
      x ∈ (failingSlots r' (mapSlots (fun k e => some (strike struck k e)) slots)).filterMap fun k =>
        ((mapSlots (fun k e => some (strike struck k e)) slots).getD k none).bind φ := by
  rw [filterMap_slots_congr (slots := readThenStruck r struck slots) (slots' := slots)
      fun k hk => bind_readThenStruck (hφ k) hk, ← List.filterMap_append,
    filterMap_slots_congr (slots := mapSlots (fun k e => some (strike struck k e)) slots)
      (slots' := slots) fun k _ => bind_mapSlots_strike (hφ k)]
  exact mem_filterMap_perm (perm_failingSlots_strike hle slots) x

theorem decide_ne_nil_of_perm {first second both : List Nat} (h : (first ++ second).Perm both) :
    (decide (first ≠ []) || decide (second ≠ [])) = decide (both ≠ []) := by
  have hnil : both = [] ↔ first = [] ∧ second = [] := by
    rw [← List.append_eq_nil_iff]
    exact ⟨fun hb => List.perm_nil.mp (hb ▸ h), fun hfs => List.nil_perm.mp (hfs ▸ h)⟩
  by_cases hfirst : first = [] <;> by_cases hsecond : second = [] <;> simp [hnil, hfirst, hsecond]

/-- A lane that two removals in turn have closed or left open. -/
theorem filter_filter_notMem {first second both : List Nat} {lane : Option Nat}
    (h : ∀ code, code ∈ both ↔ code ∈ first ∨ code ∈ second) :
    (lane.filter fun code => decide (code ∉ first)).filter (fun code => decide (code ∉ second)) =
      lane.filter fun code => decide (code ∉ both) := by
  cases lane with
  | none => rfl
  | some code =>
    by_cases hfirst : code ∈ first <;> by_cases hsecond : code ∈ second <;>
      simp [Option.filter, h, hfirst, hsecond]

/-- A read absorbs an earlier one that it covers, an upset between them or not. -/
theorem Ledger.read_strike_read (hle : ∀ k e, r k e = true → r' k (Machine.strike struck k e) = true)
    (x : Ledger) : ((x.read r).strike struck).read r' = (x.strike struck).read r' := by
  have hperm := perm_failingSlots_strike hle x.slots
  have hlanes := mem_removed_iff (φ := Entry.lane) (fun k e => (strike_fields struck k e).2.2.1) hle x.slots
  have hcodes := mem_removed_iff (φ := fun e => some e.code)
    (fun k e => congrArg some (strike_fields struck k e).1) hle x.slots
  have hslots : mapSlots (passRead r') (readThenStruck r struck x.slots) =
      mapSlots (passRead r') (mapSlots (fun k e => some (Machine.strike struck k e)) x.slots) := by
    rw [readThenStruck, mapSlots_mapSlots, mapSlots_mapSlots, mapSlots_mapSlots]
    refine mapSlots_congr fun k e _ => ?_
    unfold passRead
    cases hfirst : failsRead r k e with
    | false => rfl
    | true => simp [failsRead_strike_of_failsRead hle hfirst]
  simp only [Ledger.read, Ledger.strike, Ledger.mk.injEq]
  refine ⟨hslots, ?_, ?_, ?_, ?_⟩
  · rw [errorsAfter_errorsAfter, ← hperm.length_eq, List.length_append]
    rfl
  · rw [dropWatches_dropWatches]
    exact dropWatches_congr hlanes x.watches
  · rw [List.map_map]
    exact List.map_congr_left fun lane _ => filter_filter_notMem fun code =>
      (List.mem_append.symm.trans (hcodes code)).symm
  · rw [Bool.or_assoc]
    exact congrArg _ (decide_ne_nil_of_perm hperm)

end Absorb

end Sys2Proof.Machine
end

section
/-! PROOFS. The TABLE reply, line by line (R70, R71, R176, R182). -/

namespace Sys2Proof.Machine
open Sys2Proof.Safety

/-! ### A run of slots read one after the other -/

/-- A read of the slots from one on and before another. -/
def spanRead (low high : Nat) : Nat → Entry → Bool := fun k _ => decide (low ≤ k ∧ k < high)

/-- A read of one slot. -/
def slotRead (slot : Nat) : Nat → Entry → Bool := fun k _ => decide (k = slot)

theorem Ledger.strike_nil (x : Ledger) : x.strike [] = x := by
  have hslots : mapSlots (fun k e => some (Machine.strike [] k e)) x.slots = x.slots :=
    mapSlots_eq_self fun k e _ => by simp [Machine.strike]
  rw [Ledger.strike, hslots]

theorem Ledger.read_span_succ {slot j : Nat} (h : slot ≤ j) (x : Ledger) :
    (x.read (spanRead slot j)).read (slotRead j) = x.read (spanRead slot (j + 1)) := by
  have habsorb := Ledger.read_strike_read (r := spanRead slot j) (r' := spanRead slot (j + 1))
    (struck := []) (fun k e hk => by
      simp only [spanRead, decide_eq_true_eq] at hk ⊢
      omega) x
  rw [Ledger.strike_nil, Ledger.strike_nil] at habsorb
  rw [← habsorb]
  refine Ledger.read_congr fun k e hk => ?_
  obtain ⟨e', -, hpass⟩ := getElem?_mapSlots_eq_some.mp hk
  unfold passRead at hpass
  split_ifs at hpass with hfails
  obtain rfl := Option.some.inj hpass
  cases hgood : e'.parityGood with
  | true => simp [failsRead, hgood]
  | false =>
    simp only [failsRead, hgood, Bool.not_false, Bool.true_and, spanRead, slotRead,
      decide_eq_true_eq] at hfails ⊢
    rw [decide_eq_decide]
    omega

theorem checkParity_span_succ {slot j : Nat} (h : slot ≤ j) (s : State) :
    checkParity (slotRead j) (checkParity (spanRead slot j) s) =
      checkParity (spanRead slot (j + 1)) s := by
  simp only [checkParity_eq_withLedger, ledgerOf_withLedger, withLedger_withLedger,
    Ledger.read_span_succ h]

/-- A read that finds every entry it covers good changes nothing. -/
theorem checkParity_of_none_failing {r : Nat → Entry → Bool} {s : State}
    (h : ∀ k e, s.table.slots[k]? = some (some e) → failsRead r k e = false) :
    checkParity r s = s := by
  rw [checkParity_eq_withLedger, Ledger.read_of_good h]
  rfl

/-- Slots that are empty or fail are passed over, each failing entry removed (R71, R176). -/
theorem readSlots_past {lines : List Text} {sent slot : Nat} {s : State} :
    ∀ j, slot ≤ j → j ≤ 8 →
      (∀ i e, slot ≤ i → i < j → s.table.slots[i]? = some (some e) → e.parityGood = false) →
      readSlots lines sent (List.range' slot (8 - slot)) s =
        readSlots lines sent (List.range' j (8 - j)) (checkParity (spanRead slot j) s) := by
  intro j hj
  induction j, hj using Nat.le_induction with
  | base =>
    intro _ _
    rw [checkParity_of_none_failing]
    intro k e _
    have hempty : decide (slot ≤ k ∧ k < slot) = false := decide_eq_false (by omega)
    rw [failsRead, spanRead, hempty, Bool.and_false]
  | succ j hj ih =>
    intro hhigh hfailing
    rw [ih (by omega) fun i e hlow hi => hfailing i e hlow (by omega)]
    have hrange : List.range' j (8 - j) = j :: List.range' (j + 1) (8 - (j + 1)) := by
      rw [show 8 - j = (8 - (j + 1)) + 1 by omega, List.range'_succ]
    have hempty : (checkParity (spanRead slot (j + 1)) s).table.slots.getD j none = none := by
      rw [checkParity_slots, getD_mapSlots, List.getD_eq_getElem?_getD]
      rcases hslot : s.table.slots[j]? with _ | _ | e
      · rfl
      · rfl
      · have hbad := hfailing j e hj (by omega) hslot
        simp [passRead, failsRead, hbad, spanRead, hj]
    rw [hrange, readSlots]
    have hspan : checkParity (fun k _ => decide (k = j)) (checkParity (spanRead slot j) s) =
        checkParity (spanRead slot (j + 1)) s := checkParity_span_succ hj s
    simp only [hspan, hempty]

/-- The slot that a read comes to with a good entry gives its line, and nothing is removed there. -/
theorem readSlots_good {lines : List Text} {sent slot : Nat} {rest : List Nat} {s : State} {e : Entry}
    (hslot : s.table.slots[slot]? = some (some e)) (hgood : e.parityGood = true) :
    readSlots lines sent (slot :: rest) s =
      s.setService
        { s.service with
          reply := some
            { lines := lines ++ [entryLine slot e], cursor := some { slot := slot + 1, sent := sent + 1 } } } := by
  have hread : checkParity (fun k _ => decide (k = slot)) s = s := by
    refine checkParity_of_none_failing fun k e' hk => ?_
    by_cases hks : k = slot
    · subst hks
      cases hk.symm.trans hslot
      simp [failsRead, hgood]
    · simp [failsRead, hks]
  rw [readSlots]
  simp only [hread, getD_of_getElem? hslot]

/-! ### What a run of removals shows -/

theorem entriesOf_drop_take (slots : List (Option Entry)) (low high : Nat) :
    entriesOf ((slots.take high).drop low) =
      (List.range slots.length).filterMap fun k =>
        if low ≤ k ∧ k < high then slots.getD k none else none := by
  induction slots generalizing low high with
  | nil => simp [entriesOf]
  | cons o slots ih =>
    rw [List.length_cons, List.range_succ_eq_map, List.filterMap_cons, List.filterMap_map]
    cases high with
    | zero => simp [entriesOf]
    | succ high =>
      cases low with
      | zero =>
        have htail := ih 0 high
        simp only [List.drop_zero] at htail
        have hcongr : (List.range slots.length).filterMap
            ((fun k => if 0 ≤ k ∧ k < high + 1 then (o :: slots).getD k none else none) ∘ Nat.succ) =
            (List.range slots.length).filterMap fun k =>
              if 0 ≤ k ∧ k < high then slots.getD k none else none :=
          List.filterMap_congr fun k _ => by simp
        rw [hcongr, ← htail]
        cases o <;> simp [entriesOf]
      | succ low =>
        have hcongr : (List.range slots.length).filterMap
            ((fun k => if low + 1 ≤ k ∧ k < high + 1 then (o :: slots).getD k none else none) ∘
              Nat.succ) =
            (List.range slots.length).filterMap fun k =>
              if low ≤ k ∧ k < high then slots.getD k none else none :=
          List.filterMap_congr fun k _ => by simp
        rw [hcongr, ← ih]
        simp

/-- The entries that a run of reads removes, where each it passes fails. -/
theorem filterMap_failingSlots_span {slots : List (Option Entry)} {struck : List Nat} {low high : Nat}
    (hfailing : ∀ i e, low ≤ i → i < high → slots[i]? = some (some e) →
      e.parityGood = false ∨ i ∈ struck) :
    ((failingSlots (spanRead low high) (mapSlots (fun k e => some (strike struck k e)) slots)).filterMap
        fun k => slots.getD k none) = entriesOf ((slots.take high).drop low) := by
  rw [entriesOf_drop_take, failingSlots, length_mapSlots, List.filterMap_filter]
  apply List.filterMap_congr
  intro k hk
  rw [getD_mapSlots]
  have hget : slots.getD k none = slots[k]'(List.mem_range.mp hk) := by
    simp [List.getD_eq_getElem?_getD, List.mem_range.mp hk]
  cases ho : slots.getD k none with
  | none => simp
  | some e =>
    have hslot : slots[k]? = some (some e) := by
      rw [List.getElem?_eq_getElem (List.mem_range.mp hk), ← hget, ho]
    by_cases hspan : low ≤ k ∧ k < high
    · have hbad : e.parityGood = true → k ∈ struck := fun hgood =>
        (hfailing k e hspan.1 hspan.2 hslot).resolve_left (by simp [hgood])
      simpa [failsRead, spanRead, hspan] using hbad
    · have hout : decide (low ≤ k ∧ k < high) = false := decide_eq_false hspan
      simp only [Option.bind_some, Option.any_some, failsRead, spanRead, hout, Bool.and_false,
        Bool.false_eq_true, if_false, if_neg hspan]

/-- What a run of removals shows of the entries removed. -/
theorem removed_of_span {slots : List (Option Entry)} {struck ks : List Nat} {failed : List Entry}
    (hks : ∀ k ∈ ks, (slots.getD k none).isSome = true)
    (hfailed : (ks.filterMap fun k => slots.getD k none) = failed) :
    ks.length = failed.length ∧
      codesIn ks (mapSlots (fun k e => some (strike struck k e)) slots) = failed.map Entry.code ∧
      lanesOf ks (mapSlots (fun k e => some (strike struck k e)) slots) =
        failed.filterMap Entry.lane := by
  have hshow : ∀ {α : Type} (φ : Entry → Option α), (∀ k e, φ (strike struck k e) = φ e) →
      (ks.filterMap fun k =>
        ((mapSlots (fun k e => some (strike struck k e)) slots).getD k none).bind φ) =
        failed.filterMap φ := by
    intro α φ hφ
    rw [← hfailed, List.filterMap_filterMap]
    exact List.filterMap_congr fun k _ => bind_mapSlots_strike (hφ k)
  refine ⟨?_, ?_, hshow Entry.lane fun k e => (strike_fields struck k e).2.2.1⟩
  · rw [← hfailed, List.length_filterMap_eq_countP, eq_comm, List.countP_eq_length]
    exact hks
  · rw [codesIn, hshow (fun e => some e.code) fun k e => congrArg some (strike_fields struck k e).1,
      List.filterMap_eq_map']

/-- A ledger after a run of removals, by the entries removed. -/
theorem read_span_parts {x : Ledger} {struck : List Nat} {low high : Nat} {failed : List Entry}
    (hfailing : ∀ i e, low ≤ i → i < high → x.slots[i]? = some (some e) →
      e.parityGood = false ∨ i ∈ struck)
    (hfailed : failed = entriesOf ((x.slots.take high).drop low)) :
    ((x.strike struck).read (spanRead low high)).errors =
        (if failed = [] then x.errors else min 255 (x.errors + failed.length)) ∧
      ((x.strike struck).read (spanRead low high)).lanes =
        (x.lanes.map fun lane => lane.filter fun code => decide (code ∉ failed.map Entry.code)) ∧
      ((x.strike struck).read (spanRead low high)).watches =
        dropWatches (failed.filterMap Entry.lane) x.watches ∧
      ((x.strike struck).read (spanRead low high)).latched =
        (x.latched || decide (failed ≠ [])) ∧
      ∀ k, ((x.strike struck).read (spanRead low high)).slots[k]? =
        if low ≤ k ∧ k < high then x.slots[k]?.map fun _ => none
        else (x.strike struck).slots[k]? := by
  obtain ⟨hlength, hcodes, hlanes⟩ := removed_of_span (struck := struck)
    (fun k hk => by
      have hsome := isSome_of_mem_failingSlots hk
      rw [getD_mapSlots] at hsome
      exact Option.isSome_of_isSome_bind hsome)
    ((filterMap_failingSlots_span hfailing).trans hfailed.symm)
  have hempty : failingSlots (spanRead low high) (x.strike struck).slots = [] ↔ failed = [] := by
    rw [← List.length_eq_zero_iff, ← List.length_eq_zero_iff]
    exact iff_of_eq (congrArg (· = 0) hlength)
  refine ⟨?_, ?_, ?_, ?_, fun k => ?_⟩
  · rw [← errorsAfter_length, ← hlength]
    rfl
  · rw [← hcodes]
    rfl
  · rw [← hlanes]
    rfl
  · simp only [Ledger.read, ne_eq, hempty]
    rfl
  · simp only [Ledger.read, getElem?_mapSlots]
    rcases hk : x.slots[k]? with _ | _ | e
    · simp [Ledger.strike, hk]
    · simp [Ledger.strike, hk]
    · by_cases hspan : low ≤ k ∧ k < high
      · have hbad : e.parityGood = true → k ∈ struck := fun hgood =>
          (hfailing k e hspan.1 hspan.2 hk).resolve_left (by simp [hgood])
        simpa [Ledger.strike, hk, passRead, failsRead, spanRead, hspan] using hbad
      · have hout : decide (low ≤ k ∧ k < high) = false := decide_eq_false hspan
        simp only [if_neg hspan, Ledger.strike, getElem?_mapSlots, hk, Option.map_some,
          Option.bind_some, passRead, failsRead, spanRead, hout, Bool.and_false,
          Bool.false_eq_true, if_false]

/-! ### TABLE_LINE_READ (R176) -/

/-- The ledger after a TABLE reply has passed the slots from one on and before another. -/
def ledgerPast (upset : List Nat) (slot j : Nat) (s : State) : Ledger :=
  ((ledgerOf s).strike upset).read (spanRead slot j)

theorem length_ledgerPast (upset : List Nat) (slot j : Nat) (s : State) :
    (ledgerPast upset slot j s).slots.length = s.table.slots.length := by
  simp [ledgerPast, Ledger.read, Ledger.strike, ledgerOf]

theorem checkParity_span_upset (upset : List Nat) (slot j : Nat) (s : State) :
    checkParity (spanRead slot j) (upsetEntries upset s) = withLedger (ledgerPast upset slot j s) s := by
  rw [checkParity_eq_withLedger, upsetEntries_eq_withLedger, ledgerOf_withLedger,
    withLedger_withLedger]
  rfl

theorem exec_tableLineRead {upset : List Nat} {lines : List Text} {slot sent : Nat} {s : State}
    (hheld : s.held = false)
    (hreply : s.service.reply = some { lines := lines, cursor := some { slot := slot, sent := sent } }) :
    exec (.tableLineRead upset) s =
      .next (drive (readSlots lines sent (List.range' slot (8 - slot)) (upsetEntries upset s))) := by
  have hdrop : (List.range 8).drop slot = List.range' slot (8 - slot) := by
    rw [List.range_eq_range', List.drop_range']
    simp
  simp [exec, execTableLineRead, hheld, hreply, hdrop]

/-- Which line a TABLE reply sends next: that of the next good entry, or the closing line (R176). -/
def LineAt (upset : List Nat) (sent j errors : Nat) (line : Text) (cursor : Option TableCursor)
    (slots : List (Option Entry)) : Prop :=
  (∃ e, slots[j]? = some (some e) ∧ e.parityGood = true ∧ j ∉ upset ∧ line = entryLine j e ∧
      cursor = some { slot := j + 1, sent := sent + 1 }) ∨
    (j = 8 ∧ line = closingLine sent errors ∧ cursor = none)

/-- A line read of a TABLE reply: the ledger past the slots it passes, and the line it comes to. -/
theorem exec_tableLineRead_at {upset : List Nat} {lines : List Text} {slot sent j : Nat} {s : State}
    {line : Text} {cursor : Option TableCursor} (hheld : s.held = false)
    (hlength : s.table.slots.length = 8)
    (hreply : s.service.reply = some { lines := lines, cursor := some { slot := slot, sent := sent } })
    (hlow : slot ≤ j) (hhigh : j ≤ 8)
    (hfailing : ∀ i e, slot ≤ i → i < j → s.table.slots[i]? = some (some e) →
      e.parityGood = false ∨ i ∈ upset)
    (hline : LineAt upset sent j (ledgerPast upset slot j s).errors line cursor s.table.slots) :
    exec (.tableLineRead upset) s =
      .next (drive ((withLedger (ledgerPast upset slot j s) s).setService
        { s.service with reply := some { lines := lines ++ [line], cursor := cursor } })) := by
  rw [exec_tableLineRead hheld hreply, readSlots_past j hlow hhigh, checkParity_span_upset]
  · rcases hline with ⟨e, hslot, hgood, hnot, rfl, rfl⟩ | ⟨rfl, rfl, rfl⟩
    · have hj : j < 8 := hlength ▸ (List.getElem?_eq_some_iff.mp hslot).1
      have hrange : List.range' j (8 - j) = j :: List.range' (j + 1) (8 - (j + 1)) := by
        rw [show 8 - j = (8 - (j + 1)) + 1 by omega, List.range'_succ]
      have hkept : (withLedger (ledgerPast upset slot j s) s).table.slots[j]? = some (some e) := by
        have hspan : ¬(slot ≤ j ∧ j < j) := by omega
        rw [show (withLedger (ledgerPast upset slot j s) s).table.slots =
          (ledgerPast upset slot j s).slots from rfl, ledgerPast,
          (read_span_parts (x := ledgerOf s) hfailing rfl).2.2.2.2 j, if_neg hspan]
        simp [Ledger.strike, ledgerOf, hslot, strike_of_notMem hnot]
      rw [hrange, readSlots_good hkept hgood]
      rfl
    · rfl
  · intro i e hi hij hslot
    rw [upsetEntries_slots] at hslot
    obtain ⟨e', hslot', he⟩ := getElem?_mapSlots_eq_some.mp hslot
    obtain rfl := Option.some.inj he
    rcases hfailing i e' hi hij hslot' with h | h <;> simp [h]

theorem any_table_latched (a : Alarms) (b : Bool) :
    ({ a with table := a.table || b } : Alarms).any = (a.any || b) := by
  simp only [Alarms.any]
  cases b <;> simp

/-- The pins after a line read: ALM by the TABLE latch, and the line that carries the reply. -/
theorem drive_withLedger {x : Ledger} {service : Service} {b : Bool} {s : State}
    (hheld : s.held = false) (hpins : s.pins = pinsNow s)
    (hlatched : x.latched = (s.supervisor.alarms.table || b)) :
    (drive ((withLedger x s).setService service)).pins =
      { s.pins with alm := s.pins.alm || b, txd := lineOf service } := by
  rw [hpins]
  simp only [drive, State.setPins, withLedger, State.setService, pinsNow, hheld, hlatched,
    any_table_latched]
  rfl

/-- What a line read makes of the device: the failing entries it passes removed, and the line it comes to sent
(R44, R71, R102, R176). -/
theorem tableLineRead_spec {upset : List Nat} {lines : List Text} {slot sent : Nat} {s : State}
    (hheld : s.held = false) (hpins : s.pins = pinsNow s) (hlength : s.table.slots.length = 8)
    (hreply : s.service.reply = some { lines := lines, cursor := some { slot := slot, sent := sent } })
    (j errors : Nat) (failed : List Entry) (line : Text) (cursor : Option TableCursor)
    (hlow : slot ≤ j) (hhigh : j ≤ 8)
    (hfailing : ∀ i e, slot ≤ i → i < j → s.table.slots[i]? = some (some e) →
      e.parityGood = false ∨ i ∈ upset)
    (hfailed : failed = entriesOf ((s.table.slots.take j).drop slot))
    (herrors : errors =
      (if failed = [] then s.table.errors else min 255 (s.table.errors + failed.length)))
    (hline : LineAt upset sent j errors line cursor s.table.slots) :
    ∃ t, exec (.tableLineRead upset) s = .next t ∧
      t = { s with
            correlator := t.correlator, table := t.table, frames := t.frames,
            supervisor := t.supervisor, service := t.service, pins := t.pins } ∧
      t.table.errors = errors ∧ t.table.slots.length = 8 ∧
      (∀ k < 8, t.table.slots[k]? =
        if slot ≤ k ∧ k < j then some none else (upsetEntries upset s).table.slots[k]?) ∧
      t.correlator =
        { s.correlator with
          lanes := s.correlator.lanes.map fun lane =>
            lane.filter fun code => decide (code ∉ failed.map Entry.code) } ∧
      t.frames = { s.frames with watches := t.frames.watches } ∧
      (∀ k, t.frames.watches[k]? =
        if some (k + 1) ∈ failed.map Entry.lane then s.frames.watches[k]?.map fun _ => none
        else s.frames.watches[k]?) ∧
      t.supervisor =
        { s.supervisor with
          alarms :=
            { s.supervisor.alarms with
              table := s.supervisor.alarms.table || decide (failed ≠ []) } } ∧
      t.service =
        { s.service with reply := some { lines := lines ++ [line], cursor := cursor } } ∧
      t.pins =
        { s.pins with
          alm := s.pins.alm || decide (failed ≠ [])
          txd := .sending (wireText (lines ++ [line])) } := by
  obtain ⟨hpast, hlanes, hwatches, hlatched, hslots⟩ :=
    read_span_parts (x := ledgerOf s) (struck := upset) hfailing hfailed
  have hpasterrors : (ledgerPast upset slot j s).errors = errors := hpast.trans herrors.symm
  have hexec := exec_tableLineRead_at hheld hlength hreply hlow hhigh hfailing
    (hpasterrors ▸ hline)
  have hdriven := drive_withLedger (service :=
    { s.service with reply := some { lines := lines ++ [line], cursor := cursor } })
    hheld hpins hlatched
  refine ⟨_, hexec, rfl, hpasterrors, ?_, fun k hk => ?_, ?_, rfl, fun k => ?_, ?_, rfl, hdriven⟩
  · exact (length_ledgerPast upset slot j s).trans hlength
  · have hsome : (ledgerOf s).slots[k]?.map (fun _ => (none : Option Entry)) = some none := by
      change s.table.slots[k]?.map _ = _
      rw [List.getElem?_eq_getElem (hlength ▸ hk)]
      rfl
    have hslot := hslots k
    rw [hsome] at hslot
    rw [upsetEntries_slots]
    exact hslot
  · exact congrArg (fun lanes => ({ s.correlator with lanes := lanes } : Correlator)) hlanes
  · have hmem : k + 1 ∈ failed.filterMap Entry.lane ↔ some (k + 1) ∈ failed.map Entry.lane := by
      rw [List.mem_filterMap, List.mem_map]
    change (ledgerPast upset slot j s).watches[k]? = _
    rw [ledgerPast, hwatches, getElem?_dropWatches]
    simp only [hmem]
    rfl
  · exact congrArg (fun latched => ({ s.supervisor with
      alarms := { s.supervisor.alarms with table := latched } } : Supervisor)) hlatched

/-- A line read comes to some slot with a good entry, or past the last. -/
theorem exists_lineAt (upset : List Nat) (sent : Nat) (s : State) (errors : Nat → Nat) (n slot : Nat)
    (hn : slot + n = 8) :
    ∃ j line cursor, slot ≤ j ∧ j ≤ 8 ∧
      (∀ i e, slot ≤ i → i < j → s.table.slots[i]? = some (some e) →
        e.parityGood = false ∨ i ∈ upset) ∧
      LineAt upset sent j (errors j) line cursor s.table.slots := by
  induction n generalizing slot with
  | zero =>
    obtain rfl : slot = 8 := by omega
    exact ⟨8, _, _, le_rfl, le_rfl, fun i e hlow hhigh => by omega, Or.inr ⟨rfl, rfl, rfl⟩⟩
  | succ n ih =>
    by_cases hgood : ∃ e, s.table.slots[slot]? = some (some e) ∧ e.parityGood = true ∧ slot ∉ upset
    · obtain ⟨e, hslot, hgood, hnot⟩ := hgood
      exact ⟨slot, _, _, le_rfl, by omega, fun i e hlow hhigh => by omega,
        Or.inl ⟨e, hslot, hgood, hnot, rfl, rfl⟩⟩
    · obtain ⟨j, line, cursor, hlow, hhigh, hfailing, hline⟩ := ih (slot + 1) (by omega)
      refine ⟨j, line, cursor, by omega, hhigh, fun i e hi hij hslot => ?_, hline⟩
      rcases Nat.eq_or_lt_of_le hi with rfl | hlt
      · by_contra hnot
        rw [not_or, Bool.not_eq_false] at hnot
        exact hgood ⟨e, hslot, hnot⟩
      · exact hfailing i e hlt hij hslot

/-- A line read that comes first to a failing entry removes it and counts it (R71, R72). -/
theorem tableLineRead_failing {upset : List Nat} {lines : List Text} {slot sent : Nat} {s : State}
    (hheld : s.held = false) (hpins : s.pins = pinsNow s) (hlength : s.table.slots.length = 8)
    (hreply : s.service.reply = some { lines := lines, cursor := some { slot := slot, sent := sent } })
    {e : Entry} (hslot : s.table.slots[slot]? = some (some e))
    (hbad : e.parityGood = false ∨ slot ∈ upset) :
    ∃ t, exec (.tableLineRead upset) s = .next t ∧ t.table.slots[slot]? = some none ∧
      min 255 (s.table.errors + 1) ≤ t.table.errors ∧ t.supervisor.alarms.table = true ∧
      t.pins.alm = true := by
  have hlt : slot < 8 := hlength ▸ (List.getElem?_eq_some_iff.mp hslot).1
  obtain ⟨j, line, cursor, hlow, hhigh, hfailing, hline⟩ := exists_lineAt upset sent s
    (fun j =>
      if entriesOf ((s.table.slots.take j).drop slot) = [] then s.table.errors
      else min 255 (s.table.errors + (entriesOf ((s.table.slots.take j).drop slot)).length))
    (8 - slot) slot (by omega)
  have hpassed : slot < j := by
    rcases Nat.eq_or_lt_of_le hlow with rfl | h
    · rcases hline with ⟨e', hslot', hgood, hnot, -⟩ | ⟨rfl, -⟩
      · cases hslot.symm.trans hslot'
        rcases hbad with h | h
        · rw [hgood] at h
          cases h
        · exact absurd h hnot
      · omega
    · exact h
  have hmem : e ∈ entriesOf ((s.table.slots.take j).drop slot) := by
    rw [mem_entriesOf_iff_getElem?]
    refine ⟨0, ?_⟩
    rw [List.getElem?_drop, Nat.add_zero, List.getElem?_take_of_lt hpassed, hslot]
  have hne : entriesOf ((s.table.slots.take j).drop slot) ≠ [] := List.ne_nil_of_mem hmem
  have hpos : 0 < (entriesOf ((s.table.slots.take j).drop slot)).length := List.length_pos_of_mem hmem
  obtain ⟨t, hexec, -, herrors, -, hslots, -, -, -, hsupervisor, -, htpins⟩ :=
    tableLineRead_spec hheld hpins hlength hreply j _ _ line cursor hlow hhigh hfailing rfl rfl hline
  refine ⟨t, hexec, ?_, ?_, ?_, ?_⟩
  · rw [hslots slot hlt, if_pos ⟨le_rfl, hpassed⟩]
  · rw [herrors, if_neg hne]
    omega
  · rw [hsupervisor]
    simp [hne]
  · rw [htpins]
    simp [hne]

end Sys2Proof.Machine
end

section
/-! PROOFS. The failing entries of a cycle end and of a boundary, each counted once (R70 to R72), and the statement about
the table's reply and its reads (O52). -/

namespace Sys2Proof.Machine
open Sys2Proof.Safety

/-! ### A read of every entry -/

/-- The slots whose entries fail once some are struck (R70). -/
def failingAt (slots : List (Option Entry)) (struck : List Nat) : List Nat :=
  (List.range slots.length).filter fun k =>
    (slots.getD k none).any fun e => !e.parityGood || decide (k ∈ struck)

/-- The read of every entry (R70). -/
def everyRead : Nat → Entry → Bool := fun _ _ => true

theorem failingSlots_everyRead (slots : List (Option Entry)) (struck : List Nat) :
    failingSlots everyRead (mapSlots (fun k e => some (strike struck k e)) slots) =
      failingAt slots struck := by
  rw [failingSlots, failingAt, length_mapSlots]
  refine List.filter_congr fun k _ => ?_
  rw [getD_mapSlots]
  cases slots.getD k none with
  | none => rfl
  | some e => simp [failsRead, everyRead]

theorem mem_failingAt {slots : List (Option Entry)} {struck : List Nat} {k : Nat} :
    k ∈ failingAt slots struck ↔
      ∃ e, slots[k]? = some (some e) ∧ (e.parityGood = false ∨ k ∈ struck) := by
  rw [← failingSlots_everyRead, mem_failingSlots]
  simp only [getElem?_mapSlots_eq_some]
  constructor
  · rintro ⟨e', ⟨e, hk, he⟩, hfails⟩
    obtain rfl := Option.some.inj he
    refine ⟨e, hk, ?_⟩
    simp only [failsRead, everyRead, strike_fields, Bool.and_true, Bool.not_and, Bool.or_eq_true,
      Bool.not_eq_true', decide_eq_false_iff_not, not_not] at hfails
    exact hfails
  · rintro ⟨e, hk, hfails⟩
    refine ⟨_, ⟨e, hk, rfl⟩, ?_⟩
    simpa [failsRead, everyRead] using hfails

/-- What a ledger shows of an upset and a read of every entry after it: the codes left, the count and the latch. -/
theorem read_everyRead_shows {x : Ledger} {struck failed : List Nat}
    (hfailed : failed = failingAt x.slots struck) :
    ((x.strike struck).read everyRead).slots.map (Option.map Entry.code) =
        (x.slots.zipIdx.map fun (o, k) => if k ∈ failed then none else o.map Entry.code) ∧
      ((x.strike struck).read everyRead).errors =
        (if failed = [] then x.errors else min 255 (x.errors + failed.length)) ∧
      ((x.strike struck).read everyRead).latched = (x.latched || decide (failed ≠ [])) := by
  subst hfailed
  refine ⟨?_, ?_, ?_⟩
  · apply List.ext_getElem?
    intro k
    simp only [Ledger.read, Ledger.strike, mapSlots_mapSlots, List.getElem?_map, getElem?_mapSlots,
      List.getElem?_zipIdx, Nat.zero_add, Option.map_map]
    rcases hk : x.slots[k]? with _ | _ | e
    · rfl
    · simp
    · by_cases hfails : k ∈ failingAt x.slots struck
      · obtain ⟨e', hk', hbad⟩ := mem_failingAt.mp hfails
        cases hk.symm.trans hk'
        have hread : failsRead everyRead k (strike struck k e) = true := by
          simpa [failsRead, everyRead] using hbad
        simp [passRead, hread, hfails]
      · have hread : failsRead everyRead k (strike struck k e) = false := by
          have hgood := mt (fun h => mem_failingAt.mpr ⟨e, hk, h⟩) hfails
          simpa [failsRead, everyRead] using hgood
        simp [passRead, hread, hfails]
  · simp only [Ledger.read, Ledger.strike, failingSlots_everyRead, errorsAfter,
      List.length_eq_zero_iff]
  · simp only [Ledger.read, Ledger.strike, failingSlots_everyRead]

/-- Writes between two reads that leave each entry its code and its parity show nothing after the second. -/
theorem read_everyRead_of_writes {x y : Ledger} {f : Nat → Entry → Option Entry} (struck : List Nat)
    (hslots : y.slots = mapSlots f x.slots)
    (hf : ∀ k e, x.slots[k]? = some (some e) →
      ∃ e', f k e = some e' ∧ e'.code = e.code ∧ e'.parityGood = e.parityGood)
    (herrors : y.errors = x.errors) (hlatched : y.latched = x.latched) :
    ((y.strike struck).read everyRead).slots.map (Option.map Entry.code) =
        ((x.strike struck).read everyRead).slots.map (Option.map Entry.code) ∧
      ((y.strike struck).read everyRead).errors = ((x.strike struck).read everyRead).errors ∧
      ((y.strike struck).read everyRead).latched = ((x.strike struck).read everyRead).latched := by
  have hfailing : failingAt y.slots struck = failingAt x.slots struck := by
    rw [hslots, failingAt, failingAt, length_mapSlots]
    refine List.filter_congr fun k hk => ?_
    rw [getD_mapSlots]
    have hget : x.slots[k]? = some (x.slots.getD k none) := by
      simp [List.getD_eq_getElem?_getD, List.mem_range.mp hk]
    cases ho : x.slots.getD k none with
    | none => rfl
    | some e =>
      obtain ⟨e', he', -, hgood⟩ := hf k e (by rw [hget, ho])
      simp [he', hgood]
  have hcodes : (y.slots.zipIdx.map fun (o, k) =>
        if k ∈ failingAt x.slots struck then none else o.map Entry.code) =
      (x.slots.zipIdx.map fun (o, k) =>
        if k ∈ failingAt x.slots struck then none else o.map Entry.code) := by
    rw [hslots]
    apply List.ext_getElem?
    intro k
    simp only [List.getElem?_map, List.getElem?_zipIdx, getElem?_mapSlots, Option.map_map]
    rcases hk : x.slots[k]? with _ | _ | e
    · rfl
    · rfl
    · obtain ⟨e', he', hcode, -⟩ := hf k e hk
      simp [he', hcode]
  obtain ⟨hcy, hey, hly⟩ := read_everyRead_shows (x := y) (struck := struck) rfl
  obtain ⟨hcx, hex, hlx⟩ := read_everyRead_shows (x := x) (struck := struck) rfl
  rw [hcy, hey, hly, hcx, hex, hlx, hfailing, hcodes, herrors, hlatched]
  exact ⟨rfl, rfl, rfl⟩

/-! ### The reads of a cycle end -/

theorem ledgerOf_readAll (s : State) : ledgerOf (readAll s) = (ledgerOf s).read everyRead :=
  ledgerOf_checkParity _ _

theorem ledgerOf_slots (s : State) : (ledgerOf s).slots = s.table.slots := rfl

theorem ledgerOf_derive (s : State) : ledgerOf (derive s) = ledgerOf s := by
  have hlanes : (derive s).correlator.lanes = s.correlator.lanes := by
    rw [derive, setCondition_correlator]
  simp [ledgerOf, hlanes]

theorem ledgerOf_takeWarn (meanS : Option Nat) (s : State) :
    ledgerOf (takeWarn meanS s) = ledgerOf s := by
  simp [ledgerOf]

theorem ledgerOf_startedTable (inputs : CycleInputs) (s : State) :
    ledgerOf (startedTable inputs s) = ((ledgerOf s).strike inputs.started).read everyRead := by
  rw [startedTable, ledgerOf_readAll, ledgerOf_upsetEntries]

theorem ledgerOf_endedState (inputs : CycleInputs) (s : State) :
    ledgerOf (endedState inputs (ranOut s)) = (ledgerOf s).strike inputs.ended := by
  rw [endedState, ledgerOf_upsetEntries]
  simp [ledgerOf]

/-- What of the ledger a cycle end's blocks leave where its reads left it. -/
theorem ledgerOf_blocksAt (c : Settings) (inputs : CycleInputs) (s : State) :
    (ledgerOf (blocksAt c inputs s).1).errors = (ledgerOf (readAtEnd c inputs s)).errors ∧
      (ledgerOf (blocksAt c inputs s).1).latched = (ledgerOf (readAtEnd c inputs s)).latched := by
  simp [ledgerOf, blocksAt, readAtEnd, blocksAtCycleEnd, takeResults, checkParity_errors,
    checkParity_latched, superviseCycle]

/-- The outcome of an entry that the reads of a cycle end leave has its parity: one written was read, and good. -/
theorem outcomeAt_parity {c : Settings} {inputs : CycleInputs} {s : State} {k : Nat} {e : Entry}
    (hk : (readAtEnd c inputs s).table.slots[k]? = some (some e)) :
    (outcomeAt c inputs s e).entry.parityGood = e.parityGood := by
  by_cases hlane : some e.code ∈ s.correlator.lanes
  · have hgood := ((readAtEnd_of_lane hlane).mp hk).2.1
    rw [hgood]
    exact (outcomeAt_kept c inputs s e).2.2.2 hgood
  · rw [outcomeAt_of_no_lane hlane]
    simp

/-- The table and the TABLE latch after a cycle end: every entry that fails is gone, each counted once (R70 to R72). -/
theorem cycleEnded_removes (inputs : CycleInputs) {s : State} {failed : List Nat}
    (hfailed : failed = failingAt s.table.slots (inputs.ended ++ inputs.started)) :
    (cycleEnded inputs s).table.slots.map (Option.map Entry.code) =
        (s.table.slots.zipIdx.map fun (o, k) => if k ∈ failed then none else o.map Entry.code) ∧
      (cycleEnded inputs s).table.errors =
        (if failed = [] then s.table.errors else min 255 (s.table.errors + failed.length)) ∧
      (cycleEnded inputs s).supervisor.alarms.table =
        (s.supervisor.alarms.table || decide (failed ≠ [])) := by
  have hshows := read_everyRead_shows (x := ledgerOf s) hfailed
  cases hc : s.config with
  | none =>
    rw [cycleEnded_of_none hc]
    have hledger : ledgerOf (startedTable inputs (settledCycle inputs (ranOut s)
        { accepted := [], aligned := [], realign := false } (endedState inputs (ranOut s)))) =
        ((ledgerOf s).strike (inputs.ended ++ inputs.started)).read everyRead := by
      rw [ledgerOf_startedTable, settledCycle, ledgerOf_derive, ledgerOf_takeWarn,
        ledgerOf_endedState, Ledger.strike_strike]
    rw [← hledger] at hshows
    simpa [ledgerOf] using hshows
  | some c =>
    obtain ⟨hslots, -, -⟩ := blocksAt_table c inputs s
    obtain ⟨herrors, hlatched⟩ := ledgerOf_blocksAt c inputs s
    rw [mapEntries_eq_mapSlots] at hslots
    have hread : ledgerOf (readAtEnd c inputs s) =
        ((ledgerOf s).strike inputs.ended).read (fun _ => readAtCycleEnd (reportAt c s)) := by
      rw [readAtEnd, ledgerOf_checkParity, ledgerOf_endedState]
    have habsorb : ((ledgerOf (readAtEnd c inputs s)).strike inputs.started).read everyRead =
        ((ledgerOf s).strike (inputs.ended ++ inputs.started)).read everyRead := by
      rw [hread, Ledger.read_strike_read fun _ _ _ => rfl, Ledger.strike_strike]
    obtain ⟨hcodes, herrors, hlatched⟩ := read_everyRead_of_writes inputs.started
      (x := ledgerOf (readAtEnd c inputs s)) (y := ledgerOf (blocksAt c inputs s).1)
      (by rw [ledgerOf_slots, ledgerOf_slots]; exact hslots)
      (fun k e hk => ⟨_, rfl, (outcomeAt_kept c inputs s e).1,
        outcomeAt_parity (k := k) (by rw [ledgerOf_slots] at hk; exact hk)⟩) herrors hlatched
    have hledger : ledgerOf (startedTable inputs (settledCycle inputs (ranOut s)
        (blocksAt c inputs s).2 (blocksAt c inputs s).1)) =
        ((ledgerOf (blocksAt c inputs s).1).strike inputs.started).read everyRead := by
      rw [ledgerOf_startedTable, settledCycle, ledgerOf_derive, ledgerOf_takeWarn]
    rw [habsorb, ← hledger] at hcodes herrors hlatched
    rw [hshows.1] at hcodes
    rw [hshows.2.1] at herrors
    rw [hshows.2.2] at hlatched
    rw [cycleEnded_of_some hc, (closeCycle_table _ _ _ _ _).1, closeCycle_supervisor]
    exact ⟨hcodes, herrors, hlatched⟩

/-! ### The reads of a boundary -/

theorem ledgerOf_applyBoundary (kind : BoundaryKind) (s : State) :
    ledgerOf (applyBoundary kind s) = ledgerOf s := rfl

theorem ledgerOf_surveyBoundary (c : Settings) (s : State) :
    ledgerOf (surveyBoundary c s) = ledgerOf s := rfl

theorem ledgerOf_superviseBoundary (reversed : Bool) (aligned : List Nat) (s : State) :
    ledgerOf (superviseBoundary reversed aligned s) = ledgerOf s := by
  rw [superviseBoundary, ledgerOf_derive]
  rfl

theorem ledgerOf_planBoundary (c : Settings) (applied : Int) (s : State) :
    ledgerOf (planBoundary c applied s) = ledgerOf s := rfl

theorem ledgerOf_readForRegulation (struck : List Nat) (s : State) :
    ledgerOf (readForRegulation struck s) =
      ((ledgerOf s).strike struck).read (fun _ e => presentedEntry e) := by
  rw [readForRegulation, ledgerOf_checkParity, ledgerOf_upsetEntries]
  rfl

theorem ledgerOf_readForSurvey (struck : List Nat) (s : State) :
    ledgerOf (readForSurvey struck s) = ((ledgerOf s).strike struck).read (fun _ e => e.fresh) := by
  rw [readForSurvey, ledgerOf_checkParity, ledgerOf_upsetEntries]

/-- The ledger of a boundary's blocks, their three reads in a row (R70, R111, R135). -/
theorem ledgerOf_plannedStage (c : Settings) (kind : BoundaryKind) (upsets : BoundaryUpsets)
    (g : CycleEdge) (s : State) :
    ledgerOf (plannedStage c kind upsets g s) =
      ((((((ledgerOf (tableStage c upsets g s)).strike upsets.apply).read
        (fun _ e => presentedEntry e)).strike upsets.survey).read (fun _ e => e.fresh)).strike
          upsets.plan).read (fun _ e => presentedEntry e) := by
  rw [plannedStage, ledgerOf_planBoundary, planRead, ledgerOf_readForRegulation, superviseStage,
    ledgerOf_superviseBoundary, surveyStage, ledgerOf_surveyBoundary, surveyRead,
    ledgerOf_readForSurvey, applyStage, ledgerOf_applyBoundary, applyRead, ledgerOf_readForRegulation]

/-- A read of every entry after a boundary's blocks finds what their reads left out, each entry once. -/
theorem plannedStage_read_everyRead (c : Settings) (kind : BoundaryKind) (upsets : BoundaryUpsets)
    (g : CycleEdge) (s : State) :
    ((ledgerOf (plannedStage c kind upsets g s)).strike upsets.started).read everyRead =
      ((ledgerOf (tableStage c upsets g s)).strike
        (upsets.apply ++ upsets.survey ++ upsets.plan ++ upsets.started)).read everyRead := by
  rw [ledgerOf_plannedStage, Ledger.read_strike_read fun _ _ _ => rfl, Ledger.strike_strike,
    Ledger.read_strike_read fun _ _ _ => rfl, Ledger.strike_strike,
    Ledger.read_strike_read fun _ _ _ => rfl, Ledger.strike_strike]
  simp only [List.append_assoc]

/-- A ledger with every pending offset dropped, as a forced boundary leaves it (R88). -/
def Ledger.dropOffsets (x : Ledger) : Ledger :=
  { x with slots := mapSlots (fun _ e => some { e with offset := none }) x.slots }

theorem strike_dropOffset (struck : List Nat) (k : Nat) (e : Entry) :
    strike struck k { e with offset := none } = { strike struck k e with offset := none } := by
  unfold strike
  split <;> rfl

theorem passRead_dropOffset (k : Nat) (e : Entry) :
    passRead everyRead k { e with offset := none } =
      (passRead everyRead k e).bind fun e => some { e with offset := none } := by
  cases hgood : e.parityGood <;> simp [passRead, failsRead, everyRead, hgood]

/-- An upset and a read of every entry find the same with the pending offsets dropped. -/
theorem Ledger.read_dropOffsets (struck : List Nat) (x : Ledger) :
    (x.dropOffsets.strike struck).read everyRead =
      ((x.strike struck).read everyRead).dropOffsets := by
  have hfailing : failingAt x.dropOffsets.slots struck = failingAt x.slots struck := by
    rw [failingAt, failingAt, Ledger.dropOffsets, length_mapSlots]
    refine List.filter_congr fun k _ => ?_
    rw [getD_mapSlots]
    cases x.slots.getD k none <;> rfl
  have hshow : ∀ {α : Type} (φ : Entry → Option α),
      (∀ e, φ { e with offset := none } = φ e) → (∀ k e, φ (Machine.strike struck k e) = φ e) →
      ((failingAt x.slots struck).filterMap fun k =>
        ((x.dropOffsets.strike struck).slots.getD k none).bind φ) =
        (failingAt x.slots struck).filterMap fun k => ((x.strike struck).slots.getD k none).bind φ := by
    intro α φ hoffset hstrike
    refine List.filterMap_congr fun k _ => ?_
    rw [Ledger.strike, Ledger.strike, bind_mapSlots_strike (hstrike k),
      bind_mapSlots_strike (hstrike k), Ledger.dropOffsets, getD_mapSlots]
    cases x.slots.getD k none with
    | none => rfl
    | some e => exact hoffset e
  have hlanes := hshow Entry.lane (fun _ => rfl) fun k e => (strike_fields struck k e).2.2.1
  have hcodes := hshow (fun e => some e.code) (fun _ => rfl)
    fun k e => congrArg some (strike_fields struck k e).1
  have hslots : mapSlots (passRead everyRead) (x.dropOffsets.strike struck).slots =
      mapSlots (fun _ e => some { e with offset := none })
        (mapSlots (passRead everyRead) (x.strike struck).slots) := by
    simp only [Ledger.strike, Ledger.dropOffsets, mapSlots_mapSlots, Option.bind_some]
    refine mapSlots_congr fun k e _ => ?_
    rw [strike_dropOffset, passRead_dropOffset]
  have hfailing' : failingSlots everyRead (x.dropOffsets.strike struck).slots =
      failingAt x.slots struck := (failingSlots_everyRead _ _).trans hfailing
  have hfailing₀ : failingSlots everyRead (x.strike struck).slots = failingAt x.slots struck :=
    failingSlots_everyRead _ _
  rw [Ledger.read, Ledger.read, hfailing', hfailing₀, lanesOf, hlanes, codesIn, hcodes, hslots]
  rfl

/-- What a boundary of either kind does to a ledger of good entries (R88). -/
def Ledger.framed (kind : BoundaryKind) (x : Ledger) : Ledger :=
  match kind with
  | .ordinary => x
  | .forced => x.dropOffsets

theorem Ledger.read_framed (kind : BoundaryKind) (struck : List Nat) (x : Ledger) :
    ((x.framed kind).strike struck).read everyRead =
      ((x.strike struck).read everyRead).framed kind := by
  cases kind with
  | ordinary => rfl
  | forced => exact Ledger.read_dropOffsets struck x

theorem ledgerOf_frameBoundary_forced (s : State) :
    ledgerOf (frameBoundary .forced s) = ((ledgerOf s).read everyRead).dropOffsets := by
  have hread : ledgerOf (frameBoundary .forced s) =
      { (ledgerOf s).read everyRead with
        slots := mapSlots (fun _ e => some (Entry.written { e with offset := none }))
          ((ledgerOf s).read everyRead).slots } := by
    have hledger := ledgerOf_checkParity everyRead
      (s.setFrames { s.frames with ownFrame := some (nextFrame s) })
    rw [← mapEntries_eq_mapSlots]
    exact congrArg (fun x : Ledger =>
      { x with slots := mapEntries (fun e => some (Entry.written { e with offset := none })) x.slots })
      hledger
  have hslots : mapSlots (fun _ e => some (Entry.written { e with offset := none }))
        ((ledgerOf s).read everyRead).slots =
      mapSlots (fun _ e => some { e with offset := none }) ((ledgerOf s).read everyRead).slots := by
    refine mapSlots_congr fun k e hk => ?_
    obtain ⟨e', -, hpass⟩ := getElem?_mapSlots_eq_some.mp hk
    unfold passRead at hpass
    split_ifs at hpass with hfails
    obtain rfl := Option.some.inj hpass
    have hgood : e'.parityGood = true := by simpa [failsRead, everyRead] using hfails
    simp [Entry.written, hgood]
  rw [hread, hslots]
  rfl

theorem ledgerOf_frameBoundary_ordinary (s : State) :
    ledgerOf (frameBoundary .ordinary s) = ledgerOf s := rfl

theorem Ledger.framed_forced (x : Ledger) : x.framed .forced = x.dropOffsets := rfl

theorem Ledger.framed_ordinary (x : Ledger) : x.framed .ordinary = x := rfl

/-- The ledger a boundary leaves: that of the table's work, with every entry struck since removed (R70, R88). -/
theorem ledgerOf_boundary (c : Settings) (kind : BoundaryKind) (upsets : BoundaryUpsets)
    (g : CycleEdge) (s : State) :
    ledgerOf (readAll (upsetEntries upsets.started
        (frameBoundary kind (plannedStage c kind upsets g s)))) =
      ((((ledgerOf (tableStage c upsets g s)).strike
        (upsets.apply ++ upsets.survey ++ upsets.plan ++ upsets.started)).read everyRead)).framed
          kind := by
  rw [← plannedStage_read_everyRead c kind, ledgerOf_readAll, ledgerOf_upsetEntries]
  cases kind with
  | ordinary => rw [ledgerOf_frameBoundary_ordinary, Ledger.framed_ordinary]
  | forced =>
    rw [ledgerOf_frameBoundary_forced, Ledger.read_dropOffsets,
      Ledger.read_strike_read fun _ _ _ => rfl, Ledger.framed_forced]

end Sys2Proof.Machine
end

section
/-! PROOFS. The table's reply and its reads: the statement as a whole (O52). -/

namespace Sys2Proof.Machine
open Sys2Proof.Safety

/-! ### What stands in a slot that a boundary's first read emptied -/

/-- An entry that has known nothing but its offer and a lane (R57, R67). -/
def NewlyMade (e : Entry) : Prop :=
  e.age = 0 ∧ e.gValid = false ∧ e.discarded = 0 ∧ e.record = none

/-- Whether a slot holds no entry but a newly made one. -/
def NewAt (k : Nat) (slots : List (Option Entry)) : Prop :=
  ∀ e, slots[k]? = some (some e) → NewlyMade e

theorem newAt_mapSlots {k : Nat} {f : Nat → Entry → Option Entry} {slots : List (Option Entry)}
    (hf : ∀ e e', NewlyMade e → f k e = some e' → NewlyMade e') (h : NewAt k slots) :
    NewAt k (mapSlots f slots) := by
  intro e' he'
  obtain ⟨e, hk, he⟩ := getElem?_mapSlots_eq_some.mp he'
  exact hf e e' (h e hk) he

theorem newAt_putEntry {j k code figure : Nat} {slots : List (Option Entry)} (h : NewAt k slots) :
    NewAt k (putEntry j (newEntry code figure) slots) := by
  intro e he
  rw [putEntry, List.getElem?_set] at he
  split_ifs at he
  · obtain rfl := Option.some.inj (Option.some.inj he)
    exact ⟨rfl, rfl, rfl, rfl⟩
  · exact h e he

theorem newAt_admitOffer {k own code figure : Nat} {slots : List (Option Entry)} (h : NewAt k slots) :
    NewAt k (admitOffer own code figure slots) := by
  unfold admitOffer
  split
  · exact h
  · split
    · exact newAt_putEntry h
    · split
      · split
        · split
          · exact newAt_putEntry h
          · exact h
        · exact h
      · exact h

theorem newAt_changeCode {k code : Nat} {f : Entry → Entry} {slots : List (Option Entry)}
    (hf : ∀ e, NewlyMade e → NewlyMade (f e)) (h : NewAt k slots) :
    NewAt k (changeCode code f slots) := by
  rw [changeCode, mapEntries_eq_mapSlots]
  refine newAt_mapSlots (fun e e' hnew he => ?_) h
  obtain rfl := Option.some.inj he
  split
  · exact hf e hnew
  · exact hnew

theorem newlyMade_openTo (lane : Nat) (e : Entry) (h : NewlyMade e) : NewlyMade (e.openTo lane) := h

theorem newlyMade_evict (e : Entry) (h : NewlyMade e) : NewlyMade e.evict := ⟨rfl, h.2⟩

theorem newAt_arbitrate {k : Nat} {c : Settings} {slots : List (Option Entry)} (h : NewAt k slots) :
    NewAt k (arbitrate c slots).1 := by
  unfold arbitrate
  split
  · exact h
  · split
    · exact newAt_changeCode (newlyMade_openTo _) h
    · split
      · exact h
      · split
        · exact newAt_changeCode (newlyMade_openTo _) (newAt_changeCode newlyMade_evict h)
        · exact h

/-- The table's work puts nothing but a new entry into an empty slot (R57, R60). -/
theorem newAt_tableWork {k : Nat} {c : Settings} {offer : Option (Nat × Nat)}
    {slots : List (Option Entry)} (h : ∀ e, slots[k]? ≠ some (some e)) :
    NewAt k (tableWork c offer slots).1 := by
  have hupdated : NewAt k (mapEntries (Entry.atBoundary c) slots) := by
    intro e' he'
    rw [mapEntries_eq_mapSlots] at he'
    obtain ⟨e, hk, -⟩ := getElem?_mapSlots_eq_some.mp he'
    exact absurd hk (h e)
  unfold tableWork
  dsimp only
  split
  · exact newAt_arbitrate (newAt_admitOffer hupdated)
  · exact newAt_arbitrate hupdated

/-! ### The table a boundary leaves -/

/-- The entries struck after the table's work of a boundary (log 6). -/
def lateUpsets (upsets : BoundaryUpsets) : List Nat :=
  upsets.apply ++ upsets.survey ++ upsets.plan ++ upsets.started

/-- The ledger of a boundary's table work, as its cycle end left the device. -/
def workedLedger (c : Settings) (upsets : BoundaryUpsets) (g : CycleEdge) (s : State) : Ledger :=
  ledgerOf (tableStage c upsets (boundaryEdge c g s) (boundaryStart c g s))

/-- The ledger a boundary leaves. -/
def takenLedger (c : Settings) (kind : BoundaryKind) (upsets : BoundaryUpsets) (g : CycleEdge)
    (s : State) : Ledger :=
  (((workedLedger c upsets g s).strike (lateUpsets upsets)).read everyRead).framed kind

theorem takenState_ledger (c : Settings) (kind : BoundaryKind) (upsets : BoundaryUpsets)
    (g : CycleEdge) (s : State) :
    (takenState c kind upsets g s).table =
        { slots := (takenLedger c kind upsets g s).slots
          errors := (takenLedger c kind upsets g s).errors } ∧
      (takenState c kind upsets g s).frames.watches = (takenLedger c kind upsets g s).watches ∧
      (takenState c kind upsets g s).supervisor.alarms.table =
        (takenLedger c kind upsets g s).latched := by
  have hledger : ledgerOf (readAll (upsetEntries upsets.started
      (frameBoundary kind (boundaryWorked c kind upsets g s)))) = takenLedger c kind upsets g s :=
    ledgerOf_boundary c kind upsets (boundaryEdge c g s) (boundaryStart c g s)
  obtain ⟨-, -, -, -, -, -, -, -, -, -, -, -, -, -, -, -, hlatched⟩ :=
    takenState_facts c kind upsets g s
  have hend : (takenState c kind upsets g s).table =
        (readAll (upsetEntries upsets.started
          (frameBoundary kind (boundaryWorked c kind upsets g s)))).table ∧
      (takenState c kind upsets g s).frames.watches =
        (readAll (upsetEntries upsets.started
          (frameBoundary kind (boundaryWorked c kind upsets g s)))).frames.watches := by
    simp [boundaryEnd_eq, takeBit, bindLanes]
  rw [hend.1, hend.2, hlatched, ← hledger]
  exact ⟨rfl, rfl, rfl⟩

theorem Ledger.framed_kept (kind : BoundaryKind) (x : Ledger) :
    (x.framed kind).errors = x.errors ∧ (x.framed kind).watches = x.watches ∧
      (x.framed kind).latched = x.latched := by
  cases kind <;> exact ⟨rfl, rfl, rfl⟩

/-- Every entry of a ledger is good (R70). -/
def Ledger.Good (x : Ledger) : Prop :=
  ∀ (k : Nat) (e : Entry), x.slots[k]? = some (some e) → e.parityGood = true

theorem good_workedLedger (c : Settings) (upsets : BoundaryUpsets) (g : CycleEdge) (s : State) :
    (workedLedger c upsets g s).Good := fun _ _ hk =>
  good_of_tableStage c upsets (boundaryEdge c g s) (boundaryStart c g s) _
    (mem_entriesOf_of_getElem? hk)

theorem Ledger.Good.framed {x : Ledger} (h : x.Good) (kind : BoundaryKind) : (x.framed kind).Good := by
  cases kind with
  | ordinary => exact h
  | forced =>
    intro k e' hk
    have hcleared : (mapSlots (fun _ e => some { e with offset := none }) x.slots)[k]? =
        some (some e') := hk
    obtain ⟨e, hk', he⟩ := getElem?_mapSlots_eq_some.mp hcleared
    obtain rfl := Option.some.inj he
    exact h k e hk'

/-- With no entry struck after the table's work the boundary leaves its ledger. -/
theorem takenLedger_of_no_late {c : Settings} {kind : BoundaryKind} {upsets : BoundaryUpsets}
    {g : CycleEdge} {s : State} (h : lateUpsets upsets = []) :
    takenLedger c kind upsets g s = (workedLedger c upsets g s).framed kind := by
  rw [takenLedger, h, Ledger.strike_nil, Ledger.read_of_good]
  intro k e hk
  simp [failsRead, good_workedLedger c upsets g s k e hk]

/-- Entries struck after the table's work are removed, each counted, and no other is touched (R71, R72). -/
theorem Ledger.read_struck_of_good {x : Ledger} (h : x.Good) (struck : List Nat) {lost : List Nat}
    (hlost : lost = (List.range x.slots.length).filter fun k =>
      decide (k ∈ struck) && (x.slots.getD k none).isSome) :
    ((x.strike struck).read everyRead).slots =
        (x.slots.zipIdx.map fun (o, k) => if k ∈ struck then none else o) ∧
      ((x.strike struck).read everyRead).errors =
        (if lost = [] then x.errors else min 255 (x.errors + lost.length)) ∧
      ((x.strike struck).read everyRead).watches =
        dropWatches (lost.filterMap fun k => (x.slots.getD k none).bind Entry.lane) x.watches ∧
      ((x.strike struck).read everyRead).latched = (x.latched || decide (lost ≠ [])) := by
  have hfailing : failingSlots everyRead (x.strike struck).slots = lost := by
    rw [Ledger.strike, failingSlots_everyRead, hlost, failingAt]
    refine List.filter_congr fun k hk => ?_
    have hget : x.slots[k]? = some (x.slots.getD k none) := by
      simp [List.getD_eq_getElem?_getD, List.mem_range.mp hk]
    cases ho : x.slots.getD k none with
    | none => simp
    | some e => simp [h k e (by rw [hget, ho])]
  refine ⟨?_, ?_, ?_, ?_⟩
  · apply List.ext_getElem?
    intro k
    simp only [Ledger.read, Ledger.strike, mapSlots_mapSlots, getElem?_mapSlots, List.getElem?_map,
      List.getElem?_zipIdx, Nat.zero_add, Option.map_map]
    rcases hk : x.slots[k]? with _ | _ | e
    · rfl
    · simp
    · have hgood := h k e hk
      by_cases hstruck : k ∈ struck
      · simp [passRead, failsRead, everyRead, hstruck]
      · simp [passRead, failsRead, everyRead, hstruck, hgood, strike_of_notMem hstruck]
  · simp only [Ledger.read, hfailing, errorsAfter, List.length_eq_zero_iff]
    rfl
  · simp only [Ledger.read, hfailing, lanesOf]
    rw [filterMap_slots_congr (slots := (x.strike struck).slots) (slots' := x.slots) fun k _ =>
      bind_mapSlots_strike (fun e => (strike_fields struck k e).2.2.1)]
    rfl
  · simp only [Ledger.read, hfailing]
    rfl

/-- The ledger of a boundary with some entries struck late is that of the boundary with none, read once more. -/
theorem takenLedger_of_late (c : Settings) (kind : BoundaryKind) (upsets : BoundaryUpsets)
    (g : CycleEdge) (s : State) :
    takenLedger c kind upsets g s =
      ((takenLedger c kind { work := upsets.work } g s).strike (lateUpsets upsets)).read everyRead := by
  rw [takenLedger_of_no_late (upsets := { work := upsets.work }) rfl, Ledger.read_framed]
  rfl

theorem good_takenLedger_of_no_late {c : Settings} {kind : BoundaryKind} {upsets : BoundaryUpsets}
    {g : CycleEdge} {s : State} (h : lateUpsets upsets = []) : (takenLedger c kind upsets g s).Good := by
  rw [takenLedger_of_no_late h]
  exact (good_workedLedger c upsets g s).framed kind

/-- What the table's work leaves of the ledger of its first read (R60, R71). -/
theorem workedLedger_counts (c : Settings) (upsets : BoundaryUpsets) (g : CycleEdge) (s : State) :
    (workedLedger c upsets g s).errors =
        (((ledgerOf s).strike upsets.work).read everyRead).errors ∧
      (workedLedger c upsets g s).latched =
        (((ledgerOf s).strike upsets.work).read everyRead).latched := by
  have hstart : (ledgerOf (boundaryStart c g s)).slots = (ledgerOf s).slots ∧
      (ledgerOf (boundaryStart c g s)).errors = (ledgerOf s).errors ∧
      (ledgerOf (boundaryStart c g s)).latched = (ledgerOf s).latched := by
    simp [ledgerOf]
  have hread : ledgerOf (readStage upsets (boundaryStart c g s)) =
      ((ledgerOf (boundaryStart c g s)).strike upsets.work).read everyRead := by
    rw [readStage, ledgerOf_readAll, ledgerOf_upsetEntries]
  have hworked : (workedLedger c upsets g s).errors =
        (ledgerOf (readStage upsets (boundaryStart c g s))).errors ∧
      (workedLedger c upsets g s).latched =
        (ledgerOf (readStage upsets (boundaryStart c g s))).latched := by
    simp [workedLedger, ledgerOf, tableStage, tableBoundary]
  obtain ⟨hslots, herrors, hlatched⟩ := hstart
  rw [hworked.1, hworked.2, hread]
  simp only [Ledger.read, Ledger.strike, hslots, herrors, hlatched]
  exact ⟨trivial, rfl⟩

/-- A slot whose entry fails at a boundary's first read holds no entry but a newly made one after it (R57, R71). -/
theorem newAt_takenLedger {c : Settings} {kind : BoundaryKind} {upsets : BoundaryUpsets}
    {g : CycleEdge} {s : State} (hlate : lateUpsets upsets = []) {k : Nat}
    (hk : k ∈ failingAt s.table.slots upsets.work) :
    NewAt k (takenLedger c kind upsets g s).slots := by
  have hworked : NewAt k (workedLedger c upsets g s).slots := by
    rw [workedLedger, ledgerOf_slots, tableStage_slots]
    refine newAt_tableWork fun e he => ?_
    rw [mapEntries_eq_mapSlots, readStage_slots] at he
    obtain ⟨e₁, he₁, -⟩ := getElem?_mapSlots_eq_some.mp he
    obtain ⟨e₀, hslot, hbad⟩ := mem_failingAt.mp hk
    simp only [boundaryStart_fields, keptAt, List.getElem?_map, List.getElem?_zipIdx, hslot,
      Option.map_some, Nat.zero_add, Option.some.injEq] at he₁
    obtain ⟨-, hgood⟩ := Option.filter_eq_some_iff.mp he₁
    obtain rfl := Option.some.inj (Option.filter_eq_some_iff.mp he₁).1
    rcases hbad with h | h <;> simp [h] at hgood
  rw [takenLedger_of_no_late hlate]
  cases kind with
  | ordinary => exact hworked
  | forced =>
    rw [Ledger.framed_forced]
    change NewAt k (mapSlots (fun _ e => some { e with offset := none }) _)
    refine newAt_mapSlots (fun e e' hnew he => ?_) hworked
    obtain rfl := Option.some.inj he
    exact hnew

/-! ### The lines of a TABLE reply (R182) -/

/-- Words joined by spaces, the last of them itself words joined by spaces. -/
theorem intercalate_append_intercalate {α : Type} (sep : List α) (xs : List (List α)) {ys : List (List α)}
    (hne : ys ≠ []) :
    sep.intercalate (xs ++ [sep.intercalate ys]) = sep.intercalate (xs ++ ys) := by
  induction xs with
  | nil => simp [List.intercalate]
  | cons x xs ih =>
    cases xs with
    | nil =>
      obtain ⟨y, ys, rfl⟩ := List.exists_cons_of_ne_nil hne
      simp [List.intercalate]
    | cons x' xs => simpa [List.intercalate] using ih

theorem bitText_eq (b : Bool) : bitText b = [if b then '1' else '0'] := by
  cases b <;> rfl

/-- The fields of a frame record (R182). -/
def recordTexts (r : FrameRecord) : List Text :=
  [frameConditionName r.condition, signedText r.step, numberText r.generation, kindName r.kind,
    phaseName r.phase, numberText r.count, bitText r.limit, bitText r.health, numberText r.age]

/-- An entry's line in one row: the fields of its record stand among its own. -/
theorem entryLine_eq (slot : Nat) (e : Entry) :
    entryLine slot e =
      [' '].intercalate
        ([['T'], numberText slot, numberText e.code, entryStateName e.state,
          optionText numberText e.lane,
          if e.gValid then numberText e.g else numberText e.g ++ ['D'],
          numberText e.age, numberText e.low, numberText e.discarded,
          optionText (fun p => numberText p.offset ++ '@' :: numberText p.count) e.offset] ++
        e.record.elim [['-']] recordTexts) := by
  cases hrecord : e.record with
  | none =>
    rw [entryLine, hrecord]
    rfl
  | some r =>
    have hne : recordTexts r ≠ [] := List.cons_ne_nil _ _
    rw [Option.elim_some, ← intercalate_append_intercalate _ _ hne, entryLine, hrecord]
    rfl

/-! ### The pins where the TABLE alarm is latched -/

theorem pinsNow_alm_of_table {s : State} (hheld : s.held = false)
    (h : s.supervisor.alarms.table = true) : (pinsNow s).alm = true := by
  simp [pinsNow, hheld, Alarms.any, h]

/-- A reply that has been sent whole frees the line, which is then high (R170, R182). -/
theorem exec_replyEnd_of_sent {lines : List Text} {s : State} (hheld : s.held = false)
    (hpins : s.pins = pinsNow s) (hreply : s.service.reply = some { lines := lines, cursor := none }) :
    exec .replyEnd s = .next { s with
      wire := wireText lines, service := { s.service with reply := none }
      pins := { s.pins with txd := .high } } := by
  have hdriven : exec .replyEnd s = .next (drive
      ((s.setWire (wireText lines)).setService { s.service with reply := none })) := by
    simp [exec, execReplyEnd, hheld, hreply]
  rw [hdriven, hpins]
  have hdemand : demandNow ((s.setWire (wireText lines)).setService { s.service with reply := none }) =
      demandNow s := rfl
  simp [State.eq_iff_fields, pinsNow, hheld, txdNow, hdemand]

end Sys2Proof.Machine

namespace Sys2Proof.Proofs
open Sys2Proof.Machine Sys2Proof.Safety

/-- Settles O52: each read of the table is the read of a ledger, and a later read of every entry absorbs the earlier
ones, so a command's failures are counted as if it read once. -/
theorem tableReplyRuns : Obligations.TableReplyRuns := by
  refine ⟨fun lines => rfl, ?_, fun s hready hpins hcondition => ?_, ?_,
    fun lines s hheld hpins hreply => exec_replyEnd_of_sent hheld hpins hreply, ?_⟩
  · rintro slot sent errors e num signed kind rfl rfl rfl
    refine ⟨rfl, ?_⟩
    have hstate : entryStateName e.state =
        (match e.state with
          | .candidate => "CANDIDATE"
          | .tracked => "TRACKED"
          | .parked => "PARKED").toList := by
      cases e.state <;> rfl
    have hlane : optionText numberText e.lane =
        (match e.lane with
          | some lane => Nat.toDigits 10 lane
          | none => ['-']) := by
      cases e.lane <;> rfl
    have hoffset : optionText (fun p => numberText p.offset ++ '@' :: numberText p.count) e.offset =
        (match e.offset with
          | some q => Nat.toDigits 10 q.offset ++ ['@'] ++ Nat.toDigits 10 q.count
          | none => ['-']) := by
      cases e.offset <;> simp [optionText, numberText]
    rw [entryLine_eq, hstate, hlane, hoffset]
    cases e.record with
    | none => rfl
    | some r =>
      simp only [Option.elim_some, recordTexts, bitText_eq]
      cases r.condition <;> cases r.kind <;> cases r.phase <;> rfl
  · have haccepted := exec_rowOf_of_accepted (k := .table) hready rfl
      (by simpa [ServiceCommand.refusedIn] using hcondition)
    refine haccepted.trans ?_
    have hserved : accept .table (clearLine s) =
        served s.supervisor.pendingHold s.supervisor.alarms s.survey.origination 0
          { answered [] s with reply := some { lines := [], cursor := some { slot := 0, sent := 0 } } }
          s := rfl
    rw [hserved, drive_served_same_alarms (serviceReady_iff.mp hready).1 hpins]
    rfl
  · intro lines slot sent upset s hheld hpins hlength _ hreply
    exact ⟨tableLineRead_spec hheld hpins hlength hreply,
      fun e hslot hbad => tableLineRead_failing hheld hpins hlength hreply hslot hbad⟩
  · intro failing s hheld hfailing
    have hfailingAt : failing = failingAt s.table.slots := funext hfailing
    subst hfailingAt
    refine ⟨fun inputs failed hfailed => ?_, ?_⟩
    · obtain ⟨hcodes, herrors, hlatched⟩ := cycleEnded_removes inputs hfailed
      have hkept := (cycleEnded_kept inputs s).1.trans hheld
      refine ⟨_, exec_cycleEnded inputs hheld, ?_⟩
      simp only [drive_fields]
      exact ⟨hcodes, herrors, hlatched, fun hne =>
        pinsNow_alm_of_table hkept (by rw [hlatched]; simp [hne])⟩
    · rintro c g kind upsets failed late lost hc hedge hb hfailed rfl
      have hshows := read_everyRead_shows (x := ledgerOf s) hfailed
      obtain ⟨htable, hwatches, hlatched⟩ :=
        takenState_ledger c kind { work := upsets.work } g s
      obtain ⟨htable', hwatches', hlatched'⟩ := takenState_ledger c kind upsets g s
      obtain ⟨herrors₁, hlatched₁⟩ := workedLedger_counts c { work := upsets.work } g s
      have hfirst := takenLedger_of_no_late (c := c) (kind := kind) (g := g) (s := s)
        (upsets := { work := upsets.work }) rfl
      obtain ⟨herrors₂, -, hlatched₂⟩ :=
        (workedLedger c { work := upsets.work } g s).framed_kept kind
      have hworkLatched : (takenState c kind { work := upsets.work } g s).supervisor.alarms.table =
          (s.supervisor.alarms.table || decide (failed ≠ [])) := by
        rw [hlatched, hfirst, hlatched₂, hlatched₁, hshows.2.2]
        rfl
      refine ⟨_, _, exec_frameBoundary_taken { work := upsets.work } hheld hc hedge hb,
        exec_frameBoundary_taken upsets hheld hc hedge hb, ?_, ?_, ?_, fun hlost => ?_⟩
      · intro k hk x hx
        rw [(drive_fields _).2.2.2.2.2.2.2.2.2.2.1, htable] at hx
        exact newAt_takenLedger rfl (hfailed ▸ hk) x hx
      · rw [(drive_fields _).2.2.2.2.2.2.2.2.2.2.1, htable, hfirst, herrors₂, herrors₁, hshows.2.1]
        rfl
      · simp only [drive_fields, hworkLatched]
      · simp only [drive_fields, htable] at hlost
        have hgood := good_takenLedger_of_no_late (c := c) (kind := kind) (g := g) (s := s)
          (upsets := { work := upsets.work }) rfl
        obtain ⟨hslots₃, herrors₃, hwatches₃, hlatched₃⟩ :=
          Ledger.read_struck_of_good hgood (lateUpsets upsets) hlost
        rw [← takenLedger_of_late] at hslots₃ herrors₃ hwatches₃ hlatched₃
        simp only [drive_fields, htable, hwatches, htable', hwatches', hlatched, hlatched']
        refine ⟨by rw [hslots₃, herrors₃]; rfl, hwatches₃, hlatched₃, fun hany => ?_⟩
        refine pinsNow_alm_of_table (by simpa using hheld) ?_
        rw [hlatched', hlatched₃, ← hlatched, hworkLatched]
        rcases hany with h | h <;> simp [h]

end Sys2Proof.Proofs
end

section
/-! PROOFS. The frame on the pipe: its numbers, its reading, and a single erased place (O54). -/

namespace Sys2Proof.Machine
open Sys2Proof.Safety

/-! ### Numbers in places (R179) -/

theorem numberAt_eq_ofDigits (places : List Bool) :
    numberAt places = Nat.ofDigits 2 (places.reverse.map Bool.toNat) := by
  rw [numberAt, List.foldl_eq_foldr_reverse, Nat.ofDigits_eq_foldr, List.foldr_map]
  congr 1
  funext b acc
  simp [add_comm]

theorem numberAt_cons (b : Bool) (places : List Bool) :
    numberAt (b :: places) = numberAt places + 2 ^ places.length * b.toNat := by
  simp [numberAt_eq_ofDigits, Nat.ofDigits_append]

theorem numberAt_lt (places : List Bool) : numberAt places < 2 ^ places.length := by
  induction places with
  | nil => simp [numberAt]
  | cons b places ih =>
    rw [numberAt_cons, List.length_cons, pow_succ]
    have := b.toNat_le
    nlinarith

/-- A number that fits its places is read back from them (R179). -/
theorem numberAt_placesOf (width n : Nat) : numberAt (placesOf width n) = n % 2 ^ width := by
  induction width with
  | zero => simp [placesOf, numberAt, Nat.mod_one]
  | succ width ih =>
    rw [placesOf_succ, numberAt_cons, ih, length_placesOf, Nat.mod_pow_succ, Nat.toNat_testBit]

/-! ### Fields of a list of places (R180) -/

theorem fieldAt_one {places : List Bool} {k : Nat} (h : k < places.length) :
    fieldAt places k 1 = [places.getD k false] := by
  rw [fieldAt, List.drop_eq_getElem_cons h, List.take_succ_cons, List.take_zero,
    List.getD_eq_getElem _ _ h]

theorem numberAt_fieldAt_lt (places : List Bool) (start width : Nat) :
    numberAt (fieldAt places start width) < 2 ^ width :=
  (numberAt_lt _).trans_le (Nat.pow_le_pow_right (by decide) (by simp [fieldAt]))

/-- The number of the field at `start` of `width` places. -/
def fieldNumber (places : List Bool) (start width : Nat) : Nat :=
  numberAt (fieldAt places start width)

theorem fieldNumber_one {places : List Bool} {k : Nat} (h : k < places.length) :
    fieldNumber places k 1 = (places.getD k false).toNat := by
  rw [fieldNumber, fieldAt_one h]
  simp [numberAt]

/-! ### Which places are a valid frame (R98, R99) -/

/-- A survey combination of R99: kind, phase place and count. -/
def SurveyFormed (kind running count : Nat) : Prop :=
  (kind = 0 ∧ running = 0 ∧ count = 0) ∨ (1 ≤ kind ∧ running = 0 ∧ 1 ≤ count) ∨
    (1 ≤ kind ∧ running = 1 ∧ 1 ≤ count ∧ count ≤ 16)

/-- The phase of a survey combination (R99). -/
def phaseAt (kind running : Nat) : SurveyPhase :=
  if kind = 0 then .over else if running = 0 then .pending else .running

/-- The 32 places of a valid frame (R98, R99). -/
def WellFormed (places : List Bool) : Prop :=
  places.take 3 = [true, true, false] ∧ checkOf places = 0 ∧ fieldNumber places 5 9 ≠ 256 ∧
    SurveyFormed (fieldNumber places 18 2) (fieldNumber places 20 1) (fieldNumber places 21 5)

/-- What a valid frame shows (R98, R180). -/
def shownFrame (places : List Bool) : FrameRecord where
  condition := frameConditionAt (fieldNumber places 3 2)
  step := stepAt (fieldAt places 5 9)
  generation := fieldNumber places 14 4
  kind := kindAt (fieldNumber places 18 2)
  phase := phaseAt (fieldNumber places 18 2) (fieldNumber places 20 1)
  count := fieldNumber places 21 5
  limit := decide (fieldNumber places 26 1 = 1)
  health := decide (fieldNumber places 27 1 = 1)
  age := 0

theorem kindAt_eq_none_iff {n : Nat} (h : n < 4) : kindAt n = .none ↔ n = 0 := by
  revert n
  decide

theorem surveyReading_of_formed {kind count : Nat} {running : Bool} (hkind : kind < 4)
    (hcount : count < 32) (h : SurveyFormed kind running.toNat count) :
    surveyReading (kindAt kind) running count = some (phaseAt kind running.toNat) := by
  unfold surveyReading phaseAt
  simp only [kindAt_eq_none_iff hkind]
  rcases h with ⟨hk, hr, hc⟩ | ⟨hk, hr, hc⟩ | ⟨hk, hr, hc, hle⟩
  · have hnot : running = false := by simpa using hr
    simp [hk, hc, hnot]
  · have hnot : running = false := by simpa using hr
    have hle : count ≤ 31 := by omega
    simp [show kind ≠ 0 by omega, hnot, hc, hle]
  · have hrun : running = true := by simpa using hr
    simp [show kind ≠ 0 by omega, hrun, hc, hle]

theorem surveyReading_of_not_formed {kind count : Nat} {running : Bool} (hkind : kind < 4)
    (h : ¬SurveyFormed kind running.toNat count) :
    surveyReading (kindAt kind) running count = none := by
  unfold surveyReading
  simp only [kindAt_eq_none_iff hkind]
  rw [SurveyFormed, not_or, not_or] at h
  obtain ⟨hover, hpending, hrunning⟩ := h
  cases running with
  | false =>
    simp only [Bool.toNat_false, true_and] at hover hpending
    by_cases hk : kind = 0
    · have hc : count ≠ 0 := fun hc => hover ⟨hk, hc⟩
      simp [hk, hc]
    · have hc : count = 0 := by omega
      simp [hk, hc]
  | true =>
    simp only [Bool.toNat_true, true_and] at hrunning
    by_cases hk : kind = 0
    · simp [hk]
    · simp [hk]
      omega

/-- The step of nine places is one a frame can show exactly where they do not hold 256 (R99). -/
theorem le_stepAt_iff {places : List Bool} (h : numberAt places < 512) :
    -255 ≤ stepAt places ↔ numberAt places ≠ 256 := by
  unfold stepAt
  split_ifs <;> omega

theorem readFrame_of_wellFormed {places : List Bool} (hlength : places.length = 32)
    (h : WellFormed places) : readFrame places = some (shownFrame places) := by
  obtain ⟨hstart, hcheck, hstep, hsurvey⟩ := h
  have hrunning := fieldNumber_one (places := places) (k := 20) (by omega)
  have hlimit := fieldNumber_one (places := places) (k := 26) (by omega)
  have hhealth := fieldNumber_one (places := places) (k := 27) (by omega)
  rw [hrunning] at hsurvey
  have hreading := surveyReading_of_formed (numberAt_fieldAt_lt places 18 2)
    (numberAt_fieldAt_lt places 21 5) hsurvey
  have hfirst : fieldAt places 0 3 = [true, true, false] := hstart
  have hleast := (le_stepAt_iff (numberAt_fieldAt_lt places 5 9)).mpr hstep
  unfold readFrame
  simp only [hlength, hfirst, hcheck, hleast, decide_true, Bool.and_self, if_true, hreading,
    Option.map_some, shownFrame, hrunning, hlimit, hhealth, Option.some.injEq]
  simp [fieldNumber]

theorem readFrame_of_not_wellFormed {places : List Bool} (hlength : places.length = 32)
    (h : ¬WellFormed places) : readFrame places = none := by
  have hrunning := fieldNumber_one (places := places) (k := 20) (by omega)
  unfold readFrame
  dsimp only
  split
  · next hpassed =>
    simp only [Bool.and_eq_true, decide_eq_true_eq] at hpassed
    obtain ⟨⟨⟨-, hfirst⟩, hcheck⟩, hleast⟩ := hpassed
    rw [surveyReading_of_not_formed (numberAt_fieldAt_lt places 18 2), Option.map_none]
    rw [← hrunning]
    exact fun hsurvey => h ⟨hfirst, hcheck,
      (le_stepAt_iff (numberAt_fieldAt_lt places 5 9)).mp hleast, hsurvey⟩
  · rfl

/-- A reading passes only where the check ends at 0 (R98). -/
theorem readFrame_of_check {places : List Bool} (h : checkOf places ≠ 0) : readFrame places = none := by
  simp [readFrame, h]

/-! ### One place changed changes the check (R95, R100) -/

/-- The register's step loses nothing of the register. -/
theorem checkStep_register_inj :
    ∀ r < 16, ∀ r' < 16, ∀ b : Bool, checkStep r b = checkStep r' b → r = r' := by
  decide

theorem checkStep_place_ne : ∀ r < 16, checkStep r false ≠ checkStep r true := by
  decide

theorem foldl_checkStep_inj {places : List Bool} {r r' : Nat} (hr : r < 16) (hr' : r' < 16)
    (h : places.foldl checkStep r = places.foldl checkStep r') : r = r' := by
  induction places generalizing r r' with
  | nil => exact h
  | cons b places ih =>
    exact checkStep_register_inj r hr r' hr' b (ih (checkStep_lt _ _) (checkStep_lt _ _) h)

/-- A place's two values give different checks. -/
theorem checkOf_set_ne {places : List Bool} {k : Nat} (h : k < places.length) :
    checkOf (places.set k false) ≠ checkOf (places.set k true) := by
  intro heq
  simp only [List.set_eq_take_append_cons_drop, h, if_true, checkOf_append, List.foldl_cons] at heq
  exact checkStep_place_ne _ (checkOf_lt _)
    (foldl_checkStep_inj (checkStep_lt _ _) (checkStep_lt _ _) heq)

/-! ### The test of a history (R98, R100, R101) -/

theorem erasedCount_map_some (places : List Bool) : erasedCount (places.map some) = 0 := by
  simp [erasedCount, List.countP_map]

theorem erasedCount_set_none {places : List Bool} {k : Nat} (h : k < places.length) :
    erasedCount ((places.map some).set k none) = 1 := by
  have hset := List.countP_set (p := Option.isNone) (l := places.map some) (a := none) (i := k)
    (by simpa using h)
  rw [erasedCount, hset]
  simp [List.countP_map]

theorem filled_map_some (value : Bool) (places : List Bool) :
    filled value (places.map some) = places := by
  simp [filled]

theorem filled_set_none (value : Bool) (places : List Bool) (k : Nat) :
    filled value ((places.map some).set k none) = places.set k value := by
  simp [filled, List.map_set]

/-- A history with no place erased shows what its places read as. -/
theorem frameTest_map_some (places : List Bool) : frameTest (places.map some) = readFrame places := by
  rw [frameTest, if_pos (erasedCount_map_some places), filled_map_some]

/-- With one place erased exactly one of the two trials passes (R100). -/
theorem frameTest_set_none_eq_some_iff {places : List Bool} {k : Nat} (h : k < places.length)
    {r : FrameRecord} :
    frameTest ((places.map some).set k none) = some r ↔
      (readFrame (places.set k false) = some r ∧ readFrame (places.set k true) = none) ∨
        (readFrame (places.set k false) = none ∧ readFrame (places.set k true) = some r) := by
  rw [frameTest, erasedCount_set_none h, if_neg one_ne_zero, if_pos rfl, filled_set_none,
    filled_set_none]
  cases readFrame (places.set k false) <;> cases readFrame (places.set k true) <;> simp

theorem frameTest_of_two_erased {history : List (Option Bool)} (h : 2 ≤ erasedCount history) :
    frameTest history = none := by
  rw [frameTest, if_neg (by omega), if_neg (by omega)]

/-- A valid frame is heard with any one of its places erased (R100). -/
theorem frameTest_set_none_of_valid {places : List Bool} {k : Nat} {r : FrameRecord}
    (hk : k < places.length) (hcheck : checkOf places = 0) (hread : readFrame places = some r) :
    frameTest ((places.map some).set k none) = some r := by
  rw [frameTest_set_none_eq_some_iff hk]
  have hsame : places.set k places[k] = places := List.set_getElem_self hk
  have hne := checkOf_set_ne hk
  cases hplace : places[k] with
  | false =>
    rw [hplace] at hsame
    rw [hsame, hcheck] at hne
    exact Or.inl ⟨hsame.symm ▸ hread, readFrame_of_check hne.symm⟩
  | true =>
    rw [hplace] at hsame
    rw [hsame, hcheck] at hne
    exact Or.inr ⟨readFrame_of_check hne, hsame.symm ▸ hread⟩

/-! ### The fields of a built frame (R94, R180) -/

/-- The field value of a frame's condition (R180). -/
theorem frameConditionAt_conditionCode (x : Condition) :
    frameConditionAt (conditionCode x) =
      (match x with
      | .regulating => .regulating
      | .holding => .holding
      | .survey => .survey
      | _ => .acquiring) := by
  cases x <;> rfl

theorem conditionCode_lt (x : Condition) : conditionCode x < 4 := by
  cases x <;> decide

theorem kindAt_kindCode (k : SurveyKind) : kindAt (kindCode k) = k := by
  cases k <;> rfl

theorem kindCode_lt (k : SurveyKind) : kindCode k < 4 := by
  cases k <;> decide

/-- The kind, phase place and count a record's frame shows (R94). -/
def shownSurvey (v : Survey) : Nat × Nat × Nat :=
  match v.phaseNow with
  | .over => (0, 0, 0)
  | .pending => (kindCode v.kind, 0, v.count)
  | .running => (kindCode v.kind, 1, unitsOf v.count)

theorem surveyPlaces_eq (v : Survey) :
    surveyPlaces v =
      placesOf 4 (if v.valid then v.generation else 0) ++
        (placesOf 2 (shownSurvey v).1 ++
          (placesOf 1 (shownSurvey v).2.1 ++ placesOf 5 (shownSurvey v).2.2)) := by
  unfold surveyPlaces shownSurvey
  cases v.phaseNow <;> simp

/-- A built frame, field by field. -/
theorem buildFrame_eq (x : Condition) (step : Int) (v : Survey) (limit health : Bool) :
    buildFrame x step v limit health =
      [true, true, false] ++ (placesOf 2 (conditionCode x) ++ (stepPlaces step ++
        (placesOf 4 (if v.valid then v.generation else 0) ++ (placesOf 2 (shownSurvey v).1 ++
          (placesOf 1 (shownSurvey v).2.1 ++ (placesOf 5 (shownSurvey v).2.2 ++ ([limit] ++ ([health] ++
            placesOf 4 (checkOf (framePlaces x step v limit health)))))))))) := by
  simp [buildFrame, framePlaces, surveyPlaces_eq]

/-- The numbers of a built frame's fields. -/
theorem fieldNumber_buildFrame (x : Condition) (step : Int) (v : Survey) (limit health : Bool) :
    (buildFrame x step v limit health).take 3 = [true, true, false] ∧
      fieldNumber (buildFrame x step v limit health) 3 2 = conditionCode x ∧
      fieldNumber (buildFrame x step v limit health) 5 9 = (step % 512).toNat ∧
      fieldNumber (buildFrame x step v limit health) 14 4 =
        (if v.valid then v.generation else 0) % 16 ∧
      fieldNumber (buildFrame x step v limit health) 18 2 = (shownSurvey v).1 % 4 ∧
      fieldNumber (buildFrame x step v limit health) 20 1 = (shownSurvey v).2.1 % 2 ∧
      fieldNumber (buildFrame x step v limit health) 21 5 = (shownSurvey v).2.2 % 32 ∧
      fieldNumber (buildFrame x step v limit health) 26 1 = limit.toNat ∧
      fieldNumber (buildFrame x step v limit health) 27 1 = health.toNat := by
  have hmod : (step % 512).toNat % 2 ^ 9 = (step % 512).toNat := Nat.mod_eq_of_lt (by omega)
  have hcode : conditionCode x % 2 ^ 2 = conditionCode x := Nat.mod_eq_of_lt (conditionCode_lt x)
  rw [buildFrame_eq]
  refine ⟨rfl, ?_, ?_, numberAt_placesOf 4 _, numberAt_placesOf 2 _, numberAt_placesOf 1 _,
    numberAt_placesOf 5 _, ?_, ?_⟩
  · exact (numberAt_placesOf 2 _).trans hcode
  · exact (numberAt_placesOf 9 _).trans hmod
  · exact (Nat.zero_add _)
  · exact (Nat.zero_add _)

/-- The ranges a survey record keeps while it shows a survey (R133, R134). -/
theorem phaseNow_range {v : Survey} (h : surveyInRange v = true) :
    v.generation ≤ 15 ∧
      (v.phaseNow = .pending → v.kind ≠ .none ∧ 1 ≤ v.count ∧ v.count ≤ 31) ∧
      (v.phaseNow = .running → v.kind ≠ .none ∧ 1 ≤ v.count ∧ v.count ≤ 512) := by
  simp only [surveyInRange, Bool.and_eq_true, decide_eq_true_eq] at h
  obtain ⟨hgeneration, hphase⟩ := h
  refine ⟨hgeneration, fun hnow => ?_, fun hnow => ?_⟩
  all_goals
    have hthen : v.phase = v.phaseNow := by
      unfold Survey.phaseNow at hnow ⊢
      split at hnow
      · simp [*]
      · cases hnow
    rw [hthen, hnow] at hphase
    simpa [and_assoc] using hphase

/-- What a record in its ranges shows is a survey combination, and fits its places (R94, R99). -/
theorem shownSurvey_formed {v : Survey} (h : surveyInRange v = true) :
    SurveyFormed (shownSurvey v).1 (shownSurvey v).2.1 (shownSurvey v).2.2 ∧
      (shownSurvey v).1 < 4 ∧ (shownSurvey v).2.1 < 2 ∧ (shownSurvey v).2.2 < 32 := by
  obtain ⟨-, hpending, hrunning⟩ := phaseNow_range h
  unfold shownSurvey SurveyFormed
  cases hnow : v.phaseNow with
  | pending =>
    obtain ⟨hkind, hlow, hhigh⟩ := hpending hnow
    have hcode := kindCode_pos hkind
    have hlt := kindCode_lt v.kind
    dsimp only
    omega
  | running =>
    obtain ⟨hkind, hlow, hhigh⟩ := hrunning hnow
    have hcode := kindCode_pos hkind
    have hlt := kindCode_lt v.kind
    dsimp only [unitsOf]
    omega
  | _ => simp

/-- The survey fields read back as the record's (R94, R99). -/
theorem shownSurvey_reads {v : Survey} (h : surveyInRange v = true) :
    phaseAt (shownSurvey v).1 (shownSurvey v).2.1 = v.phaseNow ∧
      kindAt (shownSurvey v).1 = if v.phaseNow = .over then .none else v.kind := by
  obtain ⟨-, hpending, hrunning⟩ := phaseNow_range h
  unfold shownSurvey phaseAt
  cases hnow : v.phaseNow with
  | pending =>
    have hne : kindCode v.kind ≠ 0 := Nat.one_le_iff_ne_zero.mp (kindCode_pos (hpending hnow).1)
    simp [hne, kindAt_kindCode]
  | running =>
    have hne : kindCode v.kind ≠ 0 := Nat.one_le_iff_ne_zero.mp (kindCode_pos (hrunning hnow).1)
    simp [hne, kindAt_kindCode]
  | _ => exact ⟨rfl, rfl⟩

theorem wellFormed_buildFrame (x : Condition) {step : Int} {v : Survey} (limit health : Bool)
    (hlow : -255 ≤ step) (hhigh : step ≤ 255) (h : surveyInRange v = true) :
    WellFormed (buildFrame x step v limit health) := by
  obtain ⟨hstart, -, hstep, -, hkind, hrunning, hcount, -, -⟩ :=
    fieldNumber_buildFrame x step v limit health
  obtain ⟨hformed, hkindLt, hrunningLt, hcountLt⟩ := shownSurvey_formed h
  refine ⟨hstart, checkOf_buildFrame x step v limit health, ?_, ?_⟩
  · rw [hstep]
    omega
  · rwa [hkind, hrunning, hcount, Nat.mod_eq_of_lt hkindLt, Nat.mod_eq_of_lt hrunningLt,
      Nat.mod_eq_of_lt hcountLt]

/-- A built frame shows what it was built from (R94, R180). -/
theorem shownFrame_buildFrame (x : Condition) {step : Int} {v : Survey} (limit health : Bool)
    (hlow : -255 ≤ step) (hhigh : step ≤ 255) (h : surveyInRange v = true) :
    shownFrame (buildFrame x step v limit health) =
      { condition := frameConditionAt (conditionCode x)
        step := step
        generation := if v.valid then v.generation else 0
        kind := if v.phaseNow = .over then .none else v.kind
        phase := v.phaseNow
        count := (shownSurvey v).2.2
        limit := limit, health := health, age := 0 } := by
  obtain ⟨-, hcondition, hstep, hgeneration, hkind, hrunning, hcount, hlimit, hhealth⟩ :=
    fieldNumber_buildFrame x step v limit health
  obtain ⟨-, hkindLt, hrunningLt, hcountLt⟩ := shownSurvey_formed h
  obtain ⟨hphase, hkindAt⟩ := shownSurvey_reads h
  have hgenerationLt : (if v.valid then v.generation else 0) < 16 := by
    have := (phaseNow_range h).1
    split_ifs <;> omega
  have hstepAt : stepAt (fieldAt (buildFrame x step v limit health) 5 9) = step := by
    have hnumber : numberAt (fieldAt (buildFrame x step v limit health) 5 9) = (step % 512).toNat :=
      hstep
    rw [stepAt, hnumber]
    split_ifs <;> omega
  rw [shownFrame, hcondition, hgeneration, hkind, hrunning, hcount, hlimit, hhealth, hstepAt,
    Nat.mod_eq_of_lt hkindLt, Nat.mod_eq_of_lt hrunningLt, Nat.mod_eq_of_lt hcountLt,
    Nat.mod_eq_of_lt hgenerationLt, hphase, hkindAt]
  cases limit <;> cases health <;> rfl

/-! ### The layout of a built frame (R180) -/

theorem placesOf_conditionCode (x : Condition) :
    placesOf 2 (conditionCode x) =
      (match x with
      | .regulating => [false, true]
      | .holding => [true, false]
      | .survey => [true, true]
      | _ => [false, false]) := by
  cases x <;> rfl

theorem stepPlaces_eq {step : Int} (hlow : -255 ≤ step) (hhigh : step ≤ 255) :
    stepPlaces step = placesOf 9 (if 0 ≤ step then step else 512 + step).toNat := by
  have hmod : step % 512 = if 0 ≤ step then step else 512 + step := by
    split_ifs <;> omega
  rw [stepPlaces, hmod]

theorem placesOf_kindCode (k : SurveyKind) :
    placesOf 2 (kindCode k) =
      (match k with
      | .none => [false, false]
      | .interrupt => [false, true]
      | .depolarize => [true, false]
      | .freeze => [true, true]) := by
  cases k <;> rfl

/-- Kind and phase place show the record's, those of no survey being 0 (R94, R134). -/
theorem shownSurvey_kind_phase (v : Survey) :
    (shownSurvey v).1 = kindCode (if v.phaseNow = .over then .none else v.kind) ∧
      placesOf 1 (shownSurvey v).2.1 = [decide (v.phaseNow = .running)] := by
  unfold shownSurvey
  cases v.phaseNow <;> simp [kindCode, placesOf]

theorem shownSurvey_count (v : Survey) :
    (shownSurvey v).2.2 =
      (match v.phaseNow with
      | .over => 0
      | .pending => v.count
      | .running => (v.count + 31) / 32) := by
  unfold shownSurvey
  cases v.phaseNow <;> rfl

end Sys2Proof.Machine

namespace Sys2Proof.Proofs
open Sys2Proof.Machine Sys2Proof.Safety

/-- Settles O54: reading a field undoes its placing, and since a place's two values give different checks, of the two
trials for an erased place only the true one can pass. -/
theorem frameHeardAsBuilt : Obligations.FrameHeardAsBuilt := by
  refine ⟨?_, fun history htwo => frameTest_of_two_erased ?_, ?_⟩
  · rintro x step v limit health record bits hlow hhigh hrange rfl hrecord
    have hbuilt : shownFrame (buildFrame x step v limit health) = record := by
      rw [hrecord, shownFrame_buildFrame x limit health hlow hhigh hrange,
        frameConditionAt_conditionCode, shownSurvey_count] <;> rfl
    have hread := readFrame_of_wellFormed (length_buildFrame x step v limit health)
      (wellFormed_buildFrame x limit health hlow hhigh hrange)
    rw [hbuilt] at hread
    refine ⟨rfl, ?_, ?_, fun k hk => ?_⟩
    · obtain ⟨hkind, hphase⟩ := shownSurvey_kind_phase v
      rw [take_buildFrame, framePlaces, surveyPlaces_eq, placesOf_conditionCode,
        stepPlaces_eq hlow hhigh, hkind, hphase, placesOf_kindCode, shownSurvey_count, hrecord]
      simp only [List.append_assoc]
      rfl
    · rw [frameTest_map_some, hread]
    · exact frameTest_set_none_of_valid (by rwa [length_buildFrame]) (checkOf_buildFrame _ _ _ _ _) hread
  · rwa [erasedCount, List.countP_eq_length_filter]
  · rintro places field formed hlength rfl hformed
    have hfield : (fun start width =>
        Nat.ofDigits 2 (((places.drop start).take width).reverse.map Bool.toNat)) =
        fieldNumber places := by
      funext start width
      exact (numberAt_eq_ofDigits _).symm
    rw [hfield] at hformed ⊢
    change formed ↔ WellFormed places at hformed
    refine ⟨fun hnot => ?_, fun hwell => ?_, fun k hk r => ?_⟩
    · rw [frameTest_map_some, readFrame_of_not_wellFormed hlength (mt hformed.mpr hnot)]
    · rw [frameTest_map_some, readFrame_of_wellFormed hlength (hformed.mp hwell)]
      rfl
    · rw [frameTest_set_none_eq_some_iff (hlength ▸ hk), frameTest_map_some, frameTest_map_some]

end Sys2Proof.Proofs
end
